-- ==== Sys2Proof/Word.lean ====
section
/-! DEFINITION. The words of the part: 16-bit words, 20-bit word addresses and the bytes of a command word
(00 section 0.8 (a), (b)). -/

namespace Sys2Proof

/-- A word is 16 bits; every transfer on every port is one whole word (00 section 0.2). -/
abbrev Word := BitVec 16

/-- A word address, 0 to 1,048,575; bit 19 selects the bank (00 section 0.8 (b)). -/
abbrev Addr := BitVec 20

/-- Half a word: a verb, an operand, a result code (11 R195). -/
abbrev Byte := BitVec 8

end Sys2Proof
end

