-- ==== Sys2Proof/Syntax.lean ====
section
/-! DEFINITION. The commands of the part, one constructor per row of spec/opcode_table.json, and the types of
their operands. -/

namespace Sys2Proof

/-- A client port (00 section 0.2 (a)). -/
inductive Port where
  | a
  | b
  deriving DecidableEq, Repr

/-- How the memory device meets one access. A read-back mismatch is a fault of the memory or of the memory port
(06 R115), and a word read is taken as the memory returns it (07 R140); see log 5. -/
inductive MemoryAnswer where
  /-- The device holds, or returns, the word it should. -/
  | sound
  /-- A write leaves this word instead; a read returns this word instead. -/
  | faulty (w : Word)
  deriving DecidableEq, Repr

/-- The client of a cycle: its port, and whether it removes CSn or its strobe while the port is HELD with this cycle
(10 R183). For a cycle that the part settles in the step that takes it the removal can be told at no other place
(log 11). -/
structure Client where
  port : Port
  gone : Bool
  deriving DecidableEq, Repr

/-- The 39 steps of spec/opcode_table.json. -/
inductive Instr where
  /-- POWER_UP: the supply reaches its operating range, with the levels the pins then have (07 R135). -/
  | powerUp (pbyp : Bool) (pwrgood : Bool) (resetn : Bool)
  /-- RESETN_RISE: RESETN rises, with the levels of PBYP and PWRGOOD at that moment (07 R135). -/
  | resetnRise (pbyp : Bool) (pwrgood : Bool)
  /-- RESETN_FALL: RESETN falls; the operand is the device's answer to a write under way (07 R135). -/
  | resetnFall (answer : MemoryAnswer)
  /-- SUPPLY_LOSS: the supply is lost; the operand says whether a word being written is left new (07 R135). -/
  | supplyLoss (landed : Bool)
  /-- PWRGOOD_WAIT_END: the PL takes PWRGOOD high after the strap sample (07 R139). -/
  | pwrgoodWaitEnd
  /-- PROFILE_WORD_READ: a profile word read by the PL completes (07 R140). -/
  | profileWordRead (answer : MemoryAnswer)
  /-- JOURNAL_HEADER_READ: a recovery read of a header word completes (07 R146). -/
  | journalHeaderRead
  /-- JOURNAL_SLOT_CHECK_READ: a checking-pass read of a slot word completes (07 R149). -/
  | journalSlotCheckRead
  /-- REPLAY_LOAD_READ: a loading-pass read of a slot word completes (07 R150). -/
  | replayLoadRead
  /-- MEMORY_PORT_GRANT: the arbiter grants the free memory port in rotation (10 R187). -/
  | memoryPortGrant
  /-- FORWARDED_READ_COMPLETE: the memory read of a client's forwarded read completes (10 R185). -/
  | forwardedReadComplete (answer : MemoryAnswer)
  /-- FORWARDED_WRITE_COMPLETE: the memory write of a client's forwarded write completes (01 R20). -/
  | forwardedWriteComplete (answer : MemoryAnswer)
  /-- ENGINE_WRITE_COMPLETE: a write by the JE completes on the memory port (06 R114). -/
  | engineWriteComplete (answer : MemoryAnswer)
  /-- ENGINE_READ_BACK_COMPLETE: a read-back by the JE completes and is compared (06 R114). -/
  | engineReadBackComplete (answer : MemoryAnswer)
  /-- ENGINE_TAKE: the IDLE engine takes the head of the commit queue (06 R117). -/
  | engineTake
  /-- CLIENT_READ: a port takes a read cycle; both strobes low is a read too (01 R14, 10 R181). -/
  | clientRead (c : Client) (x : Addr)
  /-- CLIENT_WRITE: a port takes a write cycle (01 R20). -/
  | clientWrite (c : Client) (x : Addr) (d : Word)
  /-- COMMAND_ADDRESS_READ: a read cycle at the port's command address (03 R50). -/
  | commandAddressRead (c : Client)
  /-- OPEN: the command word 0x01 with its operand byte, the window asked for (03 R54). -/
  | openLease (c : Client) (operand : Byte)
  /-- CLOSE: the command word 0x02 with its operand byte, the window given back (03 R55). -/
  | closeLease (c : Client) (operand : Byte)
  /-- BEGIN: the command word 0x03; its operand byte is ignored, but reported at an overrun (03 R51, R56). -/
  | beginTxn (c : Client) (operand : Byte)
  /-- COMMIT: the command word 0x04 (03 R57). -/
  | commitTxn (c : Client) (operand : Byte)
  /-- ABORT: the command word 0x05 (03 R58). -/
  | abortTxn (c : Client) (operand : Byte)
  /-- STATUS: the command word 0x06 (03 R59). -/
  | status (c : Client) (operand : Byte)
  /-- NEXT_EVENT: the command word 0x07 (03 R60). -/
  | nextEvent (c : Client) (operand : Byte)
  /-- ALERT_MASK: the command word 0x08, its operand byte the new mask (03 R61). -/
  | alertMask (c : Client) (operand : Byte)
  /-- END: the command word 0x09 (03 R64). -/
  | endSession (c : Client) (operand : Byte)
  /-- BADVERB: a command word whose verb byte is none of 0x01 to 0x09 (03 R53). -/
  | badVerb (c : Client) (verb : Byte) (operand : Byte)
  /-- STEP_TIMER_EXPIRY: the step timer of a port's recognizer expires (02 R34). -/
  | stepTimerExpiry (p : Port)
  /-- LOCKOUT_TIMER_EXPIRY: the lockout timer of a port's recognizer expires (02 R37). -/
  | lockoutTimerExpiry (p : Port)
  /-- IDLE_TIMER_EXPIRY: the idle timer of a port's session expires (03 R46). -/
  | idleTimerExpiry (p : Port)
  /-- LIFETIME_TIMER_EXPIRY: the lifetime timer of a window's lease expires (04 R75). -/
  | lifetimeTimerExpiry (w : Fin 16)
  /-- HOLDOFF_TIMER_EXPIRY: the holdoff timer of a window expires (04 R79). -/
  | holdoffTimerExpiry (w : Fin 16)
  /-- PWRGOOD_FALL: PWRGOOD falls (08 R158). -/
  | pwrgoodFall
  /-- PWRGOOD_RISE: PWRGOOD rises (08 R164). -/
  | pwrgoodRise
  /-- CYCLE_ABANDONED: the client removes CSn or its strobe while the port is HELD, waiting for the memory port or on
  it (10 R183). -/
  | cycleAbandoned (p : Port)
  /-- CYCLE_ENDING_EXIT: CSn or both strobes go high while the port is ENDING (10 R181). -/
  | cycleEndingExit (p : Port)
  /-- EVENT_ARRIVAL: the EQ takes a raised event with a non-empty audience (09 R172). -/
  | eventArrival
  /-- PWRGOOD_CHANGE_IN_START_UP: PWRGOOD changes to this level before READY (08 R157). -/
  | pwrgoodChangeInStartUp (level : Bool)
  deriving DecidableEq, Repr

end Sys2Proof
end

