-- ==== Sys2Proof/Decode.lean ====
section
/-! DEFINITION. Words that spell commands. No row of spec/opcode_table.json gives bits, so no word spells a
command of the table; the 16-bit command word that a port writes at its command address is taken apart here
(03 section 3.5, 11 R195). -/

namespace Sys2Proof

/-- No row of the table gives bits, so a numbered word spells no command. -/
def decodeTableWord (_nbits _w : Nat) : Option Instr := none

/-- The verb of a command word: bits 15 to 8 (11 R195). -/
def verbByte (command : Word) : Byte := command.extractLsb' 8 8

/-- The operand of a command word: bits 7 to 0 (11 R195). -/
def operandByte (command : Word) : Byte := command.extractLsb' 0 8

/-- The command word with a verb in bits 15 to 8 and an operand in bits 7 to 0 (11 R195). -/
def commandWord (verb operand : Byte) : Word := verb ++ operand

end Sys2Proof
end

