-- ==== Sys2Proof/Config.lean ====
section
/-! DEFINITION. What the part fixes: the sizes of its stores and the fixed words of its formats. The spec leaves
no result undefined, so there is no free value. -/

namespace Sys2Proof.Config

/-- Places of the stage buffer, all owners together (05 R87). -/
def stageCapacity : Nat := 512

/-- Places of the event queue, the overflow marker's included (09 R172). -/
def recordCapacity : Nat := 32

/-- Words a response queue holds (03 R49). -/
def responseCapacity : Nat := 8

/-- Words of the profile proper (07 R140). -/
def profileLength : Nat := 272

/-- Words of the guarded memory (00 section 0.2). -/
def memoryWords : Nat := 1048576

/-- The fill word until READY rises and in the built-in profiles (01 R6). -/
def fillBeforeReady : Word := 0xFFFF#16

/-- The journal state word LOGGED (11 R194). -/
def loggedWord : Word := 0xA55A#16

/-- The journal state word CLEAR (11 R194). -/
def clearWord : Word := 0x5AA5#16

/-- What a word of the guarded memory that nothing has written reads as. DESIGN CHOICE, unsafe (log 3): the
spec says nothing of the contents of a new memory. -/
def unlistedWord : Word := 0x0000#16

end Sys2Proof.Config
end

