-- ==== Sys2Proof/Machine/State.lean ====
section
/-! DEFINITION. The state of the part, block by block (00 Table 0-2), the reasons a step can stop, and the state
held in reset. Plain data throughout. -/

namespace Sys2Proof.Machine

/-- One value for each client port. -/
structure PerPort (α : Type) where
  a : α
  b : α
  deriving DecidableEq, Repr

/-! ### The profile (01 Table 1-1, 02 Table 2-1, 11 Table 11-1) -/

/-- Policies of a window (01 Table 1-2). -/
inductive Policy where
  | openAccess
  | guarded
  | readOnly
  | hidden
  deriving DecidableEq, Repr

/-- Policies of the background (01 R3). -/
inductive Background where
  | openAccess
  | readOnly
  deriving DecidableEq, Repr

/-- A window entry (01 Table 1-1). -/
structure Window where
  enable : Bool
  base : Addr
  limit : Addr
  policy : Policy
  transactional : Bool
  ports : PerPort Bool
  keyMask : BitVec 4
  /-- units of 10 ms, 0 for none -/
  lifetime : Word
  /-- writes under one lease, 0 for no limit -/
  budget : Word
  /-- units of 100 ms; 0 to 255 in an installed profile (07 R143 (e)) -/
  holdoff : BitVec 12
  deriving DecidableEq, Repr

/-- One step of a key (02 Table 2-1). -/
structure KeyStep where
  addr : Addr
  value : Word
  mask : Word
  deriving DecidableEq, Repr

/-- A key record (02 R25). -/
structure Key where
  /-- 0 disabled, 2 to 8 in an installed profile -/
  stepCount : BitVec 4
  steps : Vector KeyStep 8
  txn : Bool
  events : Bool
  deriving DecidableEq, Repr

/-- The fields of a profile (11 Tables 11-1 to 11-3). -/
structure Profile where
  background : Background
  fill : Word
  command : PerPort Addr
  /-- ms -/
  stepTime : Word
  /-- the break threshold F -/
  breakLimit : Word
  /-- s -/
  lockoutTime : Word
  /-- units of 100 ms -/
  sessionIdle : Word
  journalBase : Addr
  /-- J, in entries -/
  journalCapacity : Word
  verify : Bool
  readers : PerPort Bool
  alertDefault : PerPort (BitVec 8)
  windows : Vector Window 16
  keys : Vector Key 4
  deriving DecidableEq, Repr

/-- Reasons of a profile rejection (07 Table 7-4). -/
inductive RejectReason where
  | signature
  | version
  | length
  | crc
  | windowRange
  | windowOverlap
  | journalPlace
  | journalSize
  | keySteps
  | cmdPlace
  | timerRange
  deriving DecidableEq, Repr

/-- The profile status (07 R138, R144, R145). -/
inductive ProfileStatus where
  | none
  | valid
  | rejected (reason : RejectReason)
  | bypass
  deriving DecidableEq, Repr

/-! ### Start-up (07 Table 7-1) -/

/-- Where the part stands between reset and operation (07 Table 7-1). -/
inductive Stage where
  /-- no supply, or RESETN low: no block is active (07 R135) -/
  | stopped
  /-- stage 3 (07 R139) -/
  | waitPwrgood
  /-- stage 4 (07 R140) -/
  | profileRead
  /-- stage 5 (07 R146) -/
  | recovery
  /-- READY has risen (07 R155) -/
  | operating
  deriving DecidableEq, Repr

/-- The pass of journal recovery that reads (07 R146, R149, R150). -/
inductive RecoveryPhase where
  | none
  | header
  | check
  | load
  deriving DecidableEq, Repr

/-- The recovery result that STARTED reports (07 R155). -/
inductive RecoveryResult where
  | none
  | clear
  | formatted
  | damaged
  | replayed
  | replayFault
  deriving DecidableEq, Repr

/-- What journal recovery has read and concluded (07 R146 to R152). -/
structure Recovery where
  phase : RecoveryPhase
  /-- header words 0 to 4, as read -/
  header : List Word
  /-- slot words of the checking pass, as read -/
  slots : List Word
  /-- slot words of the loading pass, as read -/
  loaded : List Word
  result : RecoveryResult
  deriving DecidableEq, Repr

/-! ### Client ports (10 R181) -/

/-- The cycle state of a client port (10 R181). -/
inductive CycleState where
  | idle
  | held
  | ending
  deriving DecidableEq, Repr

/-- The kind of a cycle or of a memory access, with the data of a write (10 R181, R185). -/
inductive AccessKind where
  | read
  | write (d : Word)
  deriving DecidableEq, Repr

/-- The cycle record (10 R181). -/
structure Cycle where
  kind : AccessKind
  addr : Addr
  answer : Option Word
  abandoned : Bool
  deriving DecidableEq, Repr

/-- A client port: its cycle and its early-access count (10 R181, R184). -/
structure ClientPort where
  state : CycleState
  cycle : Option Cycle
  early : Word
  deriving DecidableEq, Repr

/-! ### Timers, recognizers and sessions -/

/-- A timer: stopped, or running toward expiry this many milliseconds after it was started (00 section 0.8 (d)). -/
inductive Timer where
  | stopped
  | running (ms : Nat)
  deriving DecidableEq, Repr

/-- The state of a recognizer (02 R27). -/
inductive SqrState where
  | watching
  | lockedOut
  | session
  deriving DecidableEq, Repr

/-- The sequence recognizer of one port (02 Table 2-2). -/
structure Sqr where
  state : SqrState
  progress : Vector Nat 4
  stepTimer : Timer
  breaks : Nat
  lockoutTimer : Timer
  deriving DecidableEq, Repr

/-- The session record of one port (03 Table 3-1). -/
structure Session where
  key : Fin 4
  txn : Bool
  events : Bool
  idleTimer : Timer
  /-- the response queue, oldest first -/
  responses : List Word
  overrun : Bool
  /-- the outcome-awaited flag -/
  awaited : Bool
  deriving DecidableEq, Repr

/-! ### Leases (04 R68, R69) -/

/-- A lease record (04 Table 4-1). -/
structure LeaseRecord where
  holder : Port
  key : Fin 4
  /-- none for unlimited -/
  budget : Option Word
  lifetime : Timer
  count : Word
  deriving DecidableEq, Repr

/-- The lease state of a window (04 R68). -/
inductive Lease where
  | closed
  | leased (r : LeaseRecord)
  /-- the holdoff timer runs toward expiry this many milliseconds after its start -/
  | holdoff (ms : Nat)
  deriving DecidableEq, Repr

/-! ### Transactions and the stage buffer (05 R84, R87) -/

/-- States of a transaction (05 Table 5-1). -/
inductive TxnState where
  | none
  | staging
  | overflowed
  | queued
  | logging
  | applying
  | clearing
  deriving DecidableEq, Repr

/-- The transaction record of one port (05 Table 5-1); the entry count and the claimed-window set are views. -/
structure Txn where
  state : TxnState
  number : Option Word
  linked : Bool
  deriving DecidableEq, Repr

/-- The owner of a stage buffer entry (05 R87), and what the engine works on (06 Table 6-1). -/
inductive Owner where
  | port (p : Port)
  | recovery
  deriving DecidableEq, Repr

/-- A stage buffer entry (05 R87). -/
structure Entry where
  owner : Owner
  addr : Addr
  data : Word
  position : Nat
  deriving DecidableEq, Repr

/-! ### The journal engine (06 Table 6-1) -/

/-- Engine states (06 Table 6-2). -/
inductive EngineState where
  | idle
  | logging
  | applying
  | clearing
  | replayLoad
  | faulted
  deriving DecidableEq, Repr

/-- Stop causes (06 R124). -/
inductive StopCause where
  | abort
  | fence
  deriving DecidableEq, Repr

/-- Which word of its course the engine has in hand (06 Table 6-3, R121, R125; 07 R147, R149). -/
inductive WordRole where
  /-- word j of entry slot i -/
  | slot (i j : Nat)
  /-- header word h, 1 to 4 -/
  | header (h : Nat)
  /-- the state word, with LOGGED -/
  | logged
  /-- the home word of position k -/
  | home (k : Nat)
  /-- the state word, with CLEAR, in CLEARING -/
  | clear
  /-- the state word, with CLEAR, as a restoring write -/
  | restore
  /-- header word h, with 0, in formatting -/
  | format (h : Nat)
  /-- the state word, with CLEAR, that ends formatting -/
  | formatClear
  /-- the state word, with CLEAR, over a damaged header -/
  | damagedClear
  deriving DecidableEq, Repr

/-- The word in hand (06 Table 6-1), with whether a write of it has been granted (06 R124). -/
structure WordInHand where
  role : WordRole
  addr : Addr
  value : Word
  attempt : Nat
  granted : Bool
  deriving DecidableEq, Repr

/-- The engine's state record (06 Table 6-1). -/
structure Engine where
  state : EngineState
  current : Option Owner
  word : Option WordInHand
  restoring : Bool
  stop : Option StopCause
  nextNumber : Word
  lastCleared : Word
  deriving DecidableEq, Repr

/-! ### The memory port and its arbiter (10 R185, R186) -/

/-- A requester of the memory port; the engine place is the PL's, then the JE's (10 R186). -/
inductive Requester where
  | client (p : Port)
  | engine
  deriving DecidableEq, Repr

/-- A waiting request (10 R186). -/
structure Request where
  kind : AccessKind
  addr : Addr
  deriving DecidableEq, Repr

/-- The waiting set: at most one request for each requester (10 R186). -/
structure Waiting where
  client : PerPort (Option Request)
  engine : Option Request
  deriving DecidableEq, Repr

/-- The access in flight (10 R185). -/
structure Access where
  holder : Requester
  kind : AccessKind
  addr : Addr
  deriving DecidableEq, Repr

/-! ### The fence and the event queue (08 R157, 09 R169) -/

/-- The fence state (08 R157). -/
inductive Fence where
  | opened
  | fenced
  deriving DecidableEq, Repr

/-- The port concerned of an event (09 Table 9-2). -/
inductive Concerned where
  | port (p : Port)
  | part
  deriving DecidableEq, Repr

/-- The events of the part (09 Table 9-4). -/
inductive EventName where
  | writeDenied
  | portDenied
  | conflictWrite
  | reservedWrite
  | earlyAccess
  | keyLockout
  | keyLockoutEnd
  | sessionOpened
  | sessionEnded
  | commandOverrun
  | leaseOpened
  | leaseEnded
  | txnBegun
  | txnOverflow
  | txnOutcome
  | engineFault
  | replayed
  | replayFault
  | journalDamaged
  | journalFormatted
  | started
  | profileRejected
  | bypass
  | fenceEntered
  | fenceLeft
  | overflow
  deriving DecidableEq, Repr

/-- An event as raised: what the raising block supplies, and the audience taken at that moment (09 R170, R171). -/
structure Notice where
  name : EventName
  who : Concerned
  window : Option (Fin 16)
  hi : Word
  lo : Word
  audience : PerPort Bool
  deriving DecidableEq, Repr

/-- An event record (09 Table 9-2). -/
structure EventRecord where
  seq : Word
  time : Word
  notice : Notice
  deriving DecidableEq, Repr

/-! ### The whole part -/

/-- The guarded memory: (word address, word) pairs in the canonical form of `Memory.wf` (log 3, log 4). -/
abbrev Memory := List (Nat × Word)

/-- The state of the part (00 Table 0-2), its pins, the guarded memory and the commands waiting. -/
@[ext]
structure State where
  supply : Bool
  resetn : Bool
  pwrgood : Bool
  pbyp : Bool
  stage : Stage
  profile : Option Profile
  profileStatus : ProfileStatus
  candidate : List Word
  recovery : Recovery
  ports : PerPort ClientPort
  sqr : PerPort Sqr
  sessions : PerPort (Option Session)
  alertMask : PerPort (BitVec 8)
  leases : Vector Lease 16
  txns : PerPort Txn
  claims : Vector (Option Port) 16
  commitQueue : List Port
  sb : List Entry
  engine : Engine
  waiting : Waiting
  lastGranted : Requester
  inFlight : Option Access
  fence : Fence
  absorbed : Word
  records : List EventRecord
  seqCounter : Word
  timeBase : Word
  raised : List Notice
  memory : Memory
  pending : List Instr
  deriving DecidableEq, Repr

/-- The spec names no stop of the part: every client cycle receives a complete, ordinary-looking answer
(00 section 0.4). So no step ends in a fault, and there is no constructor; safe. -/
inductive Fault where
  deriving DecidableEq, Repr

/-- Reasons to refuse a command. -/
inductive Refusal where
  /-- Raised by exec for a command that has no meaning yet, by its row's mnemonic; safe. No arm raises it now. -/
  | notModelled (mnemonic : String)
  deriving DecidableEq, Repr

/-! ### Start-up values (07 Table 7-2) -/

/-- A recognizer at start-up and after a session: WATCHING, all else cleared (02 Table 2-2, R40). -/
def Sqr.fresh : Sqr :=
  { state := .watching, progress := #v[0, 0, 0, 0], stepTimer := .stopped, breaks := 0, lockoutTimer := .stopped }

/-- A transaction record at NONE (05 Table 5-1). -/
def Txn.empty : Txn := { state := .none, number := none, linked := false }

/-- A client port at start-up (10 R181, R184). -/
def ClientPort.fresh : ClientPort := { state := .idle, cycle := none, early := 0#16 }

/-- The engine record at the beginning of start-up (06 Table 6-1, 07 Tables 7-2 and 7-7). -/
def Engine.fresh : Engine :=
  { state := .idle, current := none, word := none, restoring := false, stop := none,
    nextNumber := 1#16, lastCleared := 0#16 }

/-- Recovery before it has run (07 R155: result NONE). -/
def Recovery.fresh : Recovery := { phase := .none, header := [], slots := [], loaded := [], result := .none }

/-- The part held in reset: the supply in range, RESETN low, every block at its start-up value (07 R135, R136,
Table 7-2), no memory word listed and no command waiting. The levels of PWRGOOD and PBYP are DESIGN CHOICE, unsafe
(log 1, log 2); RESETN_RISE brings its own. -/
def State.reset : State where
  supply := true
  resetn := false
  pwrgood := false
  pbyp := false
  stage := .stopped
  profile := none
  profileStatus := .none
  candidate := []
  recovery := Recovery.fresh
  ports := { a := ClientPort.fresh, b := ClientPort.fresh }
  sqr := { a := Sqr.fresh, b := Sqr.fresh }
  sessions := { a := none, b := none }
  alertMask := { a := 0#8, b := 0#8 }
  leases := Vector.replicate 16 .closed
  txns := { a := Txn.empty, b := Txn.empty }
  claims := Vector.replicate 16 none
  commitQueue := []
  sb := []
  engine := Engine.fresh
  waiting := { client := { a := none, b := none }, engine := none }
  lastGranted := .engine
  inFlight := none
  fence := .opened
  absorbed := 0#16
  records := []
  seqCounter := 0#16
  timeBase := 0#16
  raised := []
  memory := []
  pending := []

end Sys2Proof.Machine
end

