-- ==== Sys2Proof/Machine/Ops.lean ====
section
/-! DEFINITION. The named operations over the guarded memory, over per-port and per-window state, and over the
profile in force. Every block's rules go through them. -/

namespace Sys2Proof.Machine

/-! ### Ports and windows -/

/-- The other port (00 section 0.8 (f)). -/
def otherPort : Port → Port
  | .a => .b
  | .b => .a

/-- The value of one port. -/
def PerPort.get {α : Type} (v : PerPort α) : Port → α
  | .a => v.a
  | .b => v.b

/-- The values with one port's replaced. -/
def PerPort.set {α : Type} (v : PerPort α) (p : Port) (x : α) : PerPort α :=
  match p with
  | .a => { v with a := x }
  | .b => { v with b := x }

/-- Windows 0 to 15 in ascending order. -/
def allWindows : List (Fin 16) := [0, 1, 2, 3, 4, 5, 6, 7, 8, 9, 10, 11, 12, 13, 14, 15]

/-- Keys 0 to 3 in ascending order. -/
def allKeys : List (Fin 4) := [0, 1, 2, 3]

/-- A counter that saturates at 65,535 (01 R10, 04 R72, 08 R159, 09 R173). -/
def satSucc (n : Word) : Word := if n = 0xFFFF#16 then n else n + 1#16

/-! ### The guarded memory (00 section 0.2, 10 R189) -/

/-- The word at an address. -/
def memRead : Memory → Nat → Word
  | [], _ => Config.unlistedWord
  | c :: rest, a => if c.1 = a then c.2 else memRead rest a

/-- A word listed in front of a memory, unless it equals what an unlisted word reads as. -/
def memCons (a : Nat) (w : Word) (m : Memory) : Memory :=
  if w = Config.unlistedWord then m else (a, w) :: m

/-- The memory with one word written, in canonical form. -/
def memWrite : Memory → Nat → Word → Memory
  | [], a, w => memCons a w []
  | c :: rest, a, w =>
    if a < c.1 then memCons a w (c :: rest)
    else if a = c.1 then memCons a w rest
    else c :: memWrite rest a w

/-- The canonical form from an address on: strictly rising addresses inside the memory, no entry equal to what an
unlisted word reads as. -/
def memWfFrom : Nat → Memory → Bool
  | _, [] => true
  | low, c :: rest =>
    decide (low ≤ c.1) && decide (c.1 < Config.memoryWords) && decide (c.2 ≠ Config.unlistedWord)
      && memWfFrom (c.1 + 1) rest

/-- The canonical form of the guarded memory (log 3). -/
def Memory.wf (m : Memory) : Bool := memWfFrom 0 m

/-- What a device leaves of a word being written (06 R115, R128). -/
def wordLeft (answer : MemoryAnswer) (d : Word) : Word :=
  match answer with
  | .sound => d
  | .faulty w => w

/-- What a device returns for a read: the word it holds, unless it or the port is at fault (06 R115, 07 R140). -/
def wordReturned (answer : MemoryAnswer) (m : Memory) (x : Addr) : Word :=
  match answer with
  | .sound => memRead m x.toNat
  | .faulty w => w

/-! ### The profile in force -/

/-- An empty window entry (07 Table 7-2). -/
def emptyWindow : Window :=
  { enable := false, base := 0#20, limit := 0#20, policy := .openAccess, transactional := false,
    ports := { a := false, b := false }, keyMask := 0#4, lifetime := 0#16, budget := 0#16, holdoff := 0#12 }

/-- A step of a key that holds nothing. -/
def emptyStep : KeyStep := { addr := 0#20, value := 0#16, mask := 0#16 }

/-- A disabled key (02 R25 (a)). -/
def disabledKey : Key :=
  { stepCount := 0#4, steps := Vector.replicate 8 emptyStep, txn := false, events := false }

/-- What the blocks see while no profile is in force: no window, no key, no reader, no journal area, the fill word
0xFFFF (07 R136). Its timer fields are read by no block. The spec gives no command address then: word 0 is what the
record of a cycle at the command address holds (DESIGN CHOICE, log 23). -/
def noProfile : Profile :=
  { background := .readOnly, fill := Config.fillBeforeReady, command := { a := 0#20, b := 0#20 },
    stepTime := 0#16, breakLimit := 0#16, lockoutTime := 0#16, sessionIdle := 0#16,
    journalBase := 0#20, journalCapacity := 0#16, verify := false,
    readers := { a := false, b := false }, alertDefault := { a := 0#8, b := 0#8 },
    windows := Vector.replicate 16 emptyWindow, keys := Vector.replicate 4 disabledKey }

/-- The profile as the blocks see it. -/
def State.active (s : State) : Profile := s.profile.getD noProfile

/-- A window entry of the profile in force. -/
def State.window (s : State) (w : Fin 16) : Window := s.active.windows[w]

/-- READY is high from the event of R155 until RESETN falls or the supply is lost (10 R184). -/
def State.ready (s : State) : Bool := decide (s.stage = .operating)

/-- The command address of a port (01 R9). -/
def State.commandAddress (s : State) (p : Port) : Addr := s.active.command.get p

/-- J, in entries (01 R7). -/
def State.journalEntries (s : State) : Nat := s.active.journalCapacity.toNat

/-- A window covers an address when it is enabled and base ≤ x ≤ limit (01 R2). -/
def windowCovers (w : Window) (x : Addr) : Bool :=
  w.enable && decide (w.base.toNat ≤ x.toNat) && decide (x.toNat ≤ w.limit.toNat)

/-- The window of an address, or none for the background (01 R2). -/
def State.windowOf (s : State) (x : Addr) : Option (Fin 16) :=
  allWindows.find? (fun w => windowCovers (s.window w) x)

/-- Whether an address lies in a journal area of J entries at a base: 8 + 3J words, none when J is 0 (01 R7). -/
def inJournalArea (base capacity x : Nat) : Bool :=
  decide (capacity ≠ 0) && decide (base ≤ x) && decide (x < base + 8 + 3 * capacity)

/-- Whether an address lies in the journal area of the profile in force (01 R7, R12). -/
def State.inJournal (s : State) (x : Addr) : Bool :=
  inJournalArea s.active.journalBase.toNat s.journalEntries x.toNat

/-! ### Named updates of the state -/

/-- One client port replaced. -/
def State.setPort (s : State) (p : Port) (c : ClientPort) : State := { s with ports := s.ports.set p c }

/-- One recognizer replaced. -/
def State.setSqr (s : State) (p : Port) (q : Sqr) : State := { s with sqr := s.sqr.set p q }

/-- One session record replaced. -/
def State.setSession (s : State) (p : Port) (x : Option Session) : State :=
  { s with sessions := s.sessions.set p x }

/-- One port's alert mask replaced. -/
def State.setAlertMask (s : State) (p : Port) (m : BitVec 8) : State :=
  { s with alertMask := s.alertMask.set p m }

/-- One window's lease state replaced. -/
def State.setLease (s : State) (w : Fin 16) (l : Lease) : State := { s with leases := s.leases.set w.val l }

/-- One window's claim replaced. -/
def State.setClaim (s : State) (w : Fin 16) (c : Option Port) : State :=
  { s with claims := s.claims.set w.val c }

/-- One transaction record replaced. -/
def State.setTxn (s : State) (p : Port) (t : Txn) : State := { s with txns := s.txns.set p t }

/-- The engine record replaced. -/
def State.setEngine (s : State) (e : Engine) : State := { s with engine := e }

/-- The engine place's request replaced (10 R186). -/
def State.setEngineRequest (s : State) (q : Option Request) : State :=
  { s with waiting := { s.waiting with engine := q } }

/-- A client port's request replaced (10 R186). -/
def State.setClientRequest (s : State) (p : Port) (q : Option Request) : State :=
  { s with waiting := { s.waiting with client := s.waiting.client.set p q } }

/-- The access in flight replaced (10 R185). -/
def State.setInFlight (s : State) (a : Option Access) : State := { s with inFlight := a }

/-- One word of the guarded memory written. -/
def State.writeWord (s : State) (x : Addr) (w : Word) : State :=
  { s with memory := memWrite s.memory x.toNat w }

/-- The word of the guarded memory at an address. -/
def State.readWord (s : State) (x : Addr) : Word := memRead s.memory x.toNat

/-- The stage buffer replaced. -/
def State.setStage (s : State) (entries : List Entry) : State := { s with sb := entries }

end Sys2Proof.Machine
end

