-- ==== Sys2Proof/Machine/Operands.lean ====
section
/-! DEFINITION. The words the part exchanges with software and memory (chapter 11): addresses in two words, result
and outcome codes, response, outcome and status words, event descriptors, details, journal words and the CRC. -/

namespace Sys2Proof.Machine

/-! ### Addresses in two words (11 section 11.1) -/

/-- Address bits 19 to 16 in bits 3 to 0. -/
def addrHigh (x : Addr) : Word := (x.extractLsb' 16 4).setWidth 16

/-- Address bits 15 to 0. -/
def addrLow (x : Addr) : Word := x.extractLsb' 0 16

/-- The address of a high word, whose bits 15 to 4 are ignored, and a low word (11 R191). -/
def addrOfWords (high low : Word) : Addr := high.extractLsb' 0 4 ++ low

/-- A four-bit field above the address bits of a detail high word (11 Table 11-7). -/
def phaseAndHigh (phase : BitVec 4) (x : Addr) : Word := phase ++ (0#8 ++ x.extractLsb' 16 4)

/-! ### Codes (11 Table 11-5, R196, R197) -/

/-- Result codes of response words (03 R53). -/
inductive Result where
  | ok
  | accepted
  | denied
  | conflict
  | holdoff
  | busy
  | badArg
  | badVerb
  | none
  | tooLarge
  | tooLate
  | engineFault
  deriving DecidableEq, Repr

/-- The result codes of 11 Table 11-5. -/
def resultCode : Result → Byte
  | .ok => 0x00#8
  | .accepted => 0x01#8
  | .denied => 0x02#8
  | .conflict => 0x03#8
  | .holdoff => 0x04#8
  | .busy => 0x05#8
  | .badArg => 0x06#8
  | .badVerb => 0x07#8
  | .none => 0x08#8
  | .tooLarge => 0x09#8
  | .tooLate => 0x0A#8
  | .engineFault => 0x0B#8

/-- Outcomes of a transaction (03 R62). -/
inductive TxnOutcome where
  | committed
  | empty
  | aborted
  | discarded
  | fenced
  | logFailed
  | applyFault
  | engineFault
  deriving DecidableEq, Repr

/-- The outcome code less 0x10 (11 R197 (e)). -/
def outcomeIndex : TxnOutcome → BitVec 3
  | .committed => 0#3
  | .empty => 1#3
  | .aborted => 2#3
  | .discarded => 3#3
  | .fenced => 4#3
  | .logFailed => 5#3
  | .applyFault => 6#3
  | .engineFault => 7#3

/-- The outcome codes of 11 Table 11-5: 0x10 to 0x17. -/
def outcomeCode (o : TxnOutcome) : Byte := 0x10#8 + (outcomeIndex o).setWidth 8

/-- Transaction state codes (03 R50, 11 R196). -/
def txnStateCode : TxnState → BitVec 3
  | .none => 0#3
  | .staging => 1#3
  | .overflowed => 2#3
  | .queued => 3#3
  | .logging => 4#3
  | .applying => 5#3
  | .clearing => 6#3

/-- Engine state codes (11 R196). -/
def engineStateCode : EngineState → BitVec 3
  | .idle => 0#3
  | .logging => 1#3
  | .applying => 2#3
  | .clearing => 3#3
  | .replayLoad => 4#3
  | .faulted => 5#3

/-- Reasons of a rejection (11 R197 (i)). -/
def rejectCode : RejectReason → BitVec 4
  | .signature => 1#4
  | .version => 2#4
  | .length => 3#4
  | .crc => 4#4
  | .windowRange => 5#4
  | .windowOverlap => 6#4
  | .journalPlace => 7#4
  | .journalSize => 8#4
  | .keySteps => 9#4
  | .cmdPlace => 10#4
  | .timerRange => 11#4

/-- Profile status and rejection reason as STARTED reports them (11 R197 (i), (j)); before installation there is
no status to report. -/
def statusCodes : ProfileStatus → BitVec 4 × BitVec 4
  | .none => (0#4, 0#4)
  | .valid => (0#4, 0#4)
  | .rejected r => (1#4, rejectCode r)
  | .bypass => (2#4, 0#4)

/-- Recovery results (11 R197 (k)). -/
def recoveryCode : RecoveryResult → Word
  | .none => 0#16
  | .clear => 1#16
  | .formatted => 2#16
  | .damaged => 3#16
  | .replayed => 4#16
  | .replayFault => 5#16

/-- Causes of SESSION_ENDED (11 R197 (b)). -/
inductive SessionCause where
  | ended
  | idle
  | fence
  deriving DecidableEq, Repr

/-- 0 END, 1 IDLE, 2 FENCE (11 R197 (b)). -/
def sessionCauseCode : SessionCause → Word
  | .ended => 0#16
  | .idle => 1#16
  | .fence => 2#16

/-- Causes of LEASE_ENDED (04 Table 4-2). -/
inductive LeaseCause where
  | close
  | lifetime
  | budget
  | sessionEnd
  | fence
  deriving DecidableEq, Repr

/-- 0 CLOSE to 4 FENCE (11 R197 (c)). -/
def leaseCauseCode : LeaseCause → Word
  | .close => 0#16
  | .lifetime => 1#16
  | .budget => 2#16
  | .sessionEnd => 3#16
  | .fence => 4#16

/-- The class of an event (09 Table 9-4). -/
def eventClass : EventName → BitVec 3
  | .writeDenied | .portDenied | .conflictWrite | .reservedWrite | .earlyAccess => 0#3
  | .keyLockout | .keyLockoutEnd => 1#3
  | .sessionOpened | .sessionEnded | .commandOverrun => 2#3
  | .leaseOpened | .leaseEnded => 3#3
  | .txnBegun | .txnOverflow | .txnOutcome => 4#3
  | .engineFault | .replayed | .replayFault | .journalDamaged | .journalFormatted => 5#3
  | .started | .profileRejected | .bypass | .fenceEntered | .fenceLeft => 6#3
  | .overflow => 7#3

/-- The code of an event within its class (09 Table 9-4). -/
def eventCode : EventName → BitVec 4
  | .writeDenied => 0#4
  | .portDenied => 1#4
  | .conflictWrite => 2#4
  | .reservedWrite => 3#4
  | .earlyAccess => 4#4
  | .keyLockout => 0#4
  | .keyLockoutEnd => 1#4
  | .sessionOpened => 0#4
  | .sessionEnded => 1#4
  | .commandOverrun => 2#4
  | .leaseOpened => 0#4
  | .leaseEnded => 1#4
  | .txnBegun => 0#4
  | .txnOverflow => 1#4
  | .txnOutcome => 2#4
  | .engineFault => 0#4
  | .replayed => 1#4
  | .replayFault => 2#4
  | .journalDamaged => 3#4
  | .journalFormatted => 4#4
  | .started => 0#4
  | .profileRejected => 1#4
  | .bypass => 2#4
  | .fenceEntered => 3#4
  | .fenceLeft => 4#4
  | .overflow => 0#4

/-- 1 for A, 2 for B, 3 for PART (11 R197). -/
def concernedCode : Concerned → BitVec 2
  | .port .a => 1#2
  | .port .b => 2#2
  | .part => 3#2

/-- The window, or 31 for none (11 R197). -/
def windowCode : Option (Fin 16) → BitVec 5
  | none => 31#5
  | some w => BitVec.ofNat 5 w.val

/-! ### Words at the command address (11 R195) -/

/-- A response word: the verb byte as written, then the result code. -/
def responseWord (verb : Byte) (r : Result) : Word := verb ++ resultCode r

/-- An outcome word: 0xC0, then the outcome code. -/
def outcomeWord (o : TxnOutcome) : Word := 0xC0#8 ++ outcomeCode o

/-- Free words a verb needs in the response queue (03 Table 3-2). -/
def verbNeed (verb : Byte) : Nat :=
  if verb = 0x06#8 then 5 else if verb = 0x07#8 then 6 else if verb = 0x09#8 then 0 else 1

/-- The session status word (11 Table 11-6): 0x80 plus the key index; overrun, alert pending, transaction state. -/
def sessionStatusWord (key : Fin 4) (overrun alert : Bool) (t : TxnState) : Word :=
  (0x80#8 + BitVec.ofNat 8 key.val) ++
    (BitVec.ofBool overrun ++ (BitVec.ofBool alert ++ (0#3 ++ txnStateCode t)))

/-- STATUS word 1 (11 Table 11-6): transaction state in bits 15 to 13, entry count in bits 9 to 0. -/
def statusTxnWord (t : TxnState) (count : Nat) : Word := txnStateCode t ++ (0#3 ++ BitVec.ofNat 10 count)

/-- STATUS word 4 (11 Table 11-6): engine state in bits 15 to 13, records held in bits 5 to 0. -/
def statusEngineWord (e : EngineState) (held : Nat) : Word := engineStateCode e ++ (0#7 ++ BitVec.ofNat 6 held)

/-! ### Events (11 R197) -/

/-- The descriptor word: class, code, port concerned, two zero bits, window. -/
def descriptorWord (n : Notice) : Word :=
  eventClass n.name ++ (eventCode n.name ++ (concernedCode n.who ++ (0#2 ++ windowCode n.window)))

/-- The five words of a record, in the order NEXT_EVENT delivers them. -/
def recordWords (r : EventRecord) : List Word :=
  [r.seq, r.time, descriptorWord r.notice, r.notice.hi, r.notice.lo]

/-- The detail high word of TXN_OUTCOME: outcome in bits 15 to 13, numbered in bit 12, entry count in bits 9 to 0. -/
def outcomeDetail (o : TxnOutcome) (numbered : Bool) (count : Nat) : Word :=
  outcomeIndex o ++ (BitVec.ofBool numbered ++ (0#2 ++ BitVec.ofNat 10 count))

/-- The detail high word of STARTED: profile status in bits 15 to 12, rejection reason in bits 11 to 8. -/
def startedDetail (st : ProfileStatus) : Word :=
  (statusCodes st).1 ++ ((statusCodes st).2 ++ 0#8)

/-! ### The CRC (11 R193) -/

/-- One bit into the remainder: shift left, and add 0x1021 when the bit differs from bit 15. -/
def crcBit (r : Word) (b : Bool) : Word :=
  if r.getLsbD 15 = b then r <<< 1 else (r <<< 1) ^^^ 0x1021#16

/-- The bits of a word from bit 15 down to bit 0. -/
def bitsDown : List Nat := [15, 14, 13, 12, 11, 10, 9, 8, 7, 6, 5, 4, 3, 2, 1, 0]

/-- One word into the remainder. -/
def crcWord (r w : Word) : Word := bitsDown.foldl (fun acc i => crcBit acc (w.getLsbD i)) r

/-- The CRC-16 of a run of words. -/
def crc16 (ws : List Word) : Word := ws.foldl crcWord 0xFFFF#16

/-! ### The journal (11 R194) -/

/-- The three words of an entry slot. -/
def slotWords (e : Entry) : List Word := [0xE000#16 ||| addrHigh e.addr, addrLow e.addr, e.data]

/-- The entries CRC: over the 3n words of the slots, in slot order (06 R113). -/
def entriesCrc (es : List Entry) : Word := crc16 (es.flatMap slotWords)

/-- The header CRC: over LOGGED and header words 1, 2 and 3 (06 R113). -/
def headerCrc (w1 w2 w3 : Word) : Word := crc16 [Config.loggedWord, w1, w2, w3]

end Sys2Proof.Machine
end

