-- ==== Sys2Proof/Machine/Flags.lean ====
section
/-! DEFINITION. The conditions and line levels that follow from the state: WAIT, D, ALERT, the memory port's lines,
the reader set, entry counts, leases held, the response queue's free count (03 R49, R50; 09 R179; 10 R182, R185). -/

namespace Sys2Proof.Machine

/-! ### Client port lines -/

/-- WAIT is high while the port holds the current cycle (10 R182). -/
def State.wait (s : State) (p : Port) : Bool := decide ((s.ports.get p).state = .held)

/-- The word the port drives on D[15:0]: the answer of a read, from the release of WAIT until the port leaves
ENDING (10 R182). -/
def State.dataOut (s : State) (p : Port) : Option Word :=
  match (s.ports.get p).state, (s.ports.get p).cycle with
  | .ending, some c => c.answer
  | _, _ => none

/-! ### The event queue and the ALERT lines -/

/-- The reader set (09 R169). -/
def State.reader (s : State) (p : Port) : Bool := s.active.readers.get p

/-- The ports an event concerns (09 R171). -/
def concerns : Concerned → Port → Bool
  | .port q, p => decide (q = p)
  | .part, _ => true

/-- The audience of an event raised now: the ports concerned, limited to the reader ports (09 R171). -/
def State.audience (s : State) (who : Concerned) : PerPort Bool :=
  { a := concerns who .a && s.reader .a, b := concerns who .b && s.reader .b }

/-- A mask admits an event class: bit c for class c (03 R61, 11 R191). -/
def maskAdmits (m : BitVec 8) (c : BitVec 3) : Bool := m.getLsbD c.toNat

/-- ALERT_P, and the alert-pending flag: some record's audience includes P and its class is in P's mask (09 R179).
While RESETN is low the line is low (09 R180). -/
def State.alert (s : State) (p : Port) : Bool :=
  s.resetn && s.records.any (fun r =>
    r.notice.audience.get p && maskAdmits (s.alertMask.get p) (eventClass r.notice.name))

/-- Records whose audience includes P (09 R177). -/
def State.recordsFor (s : State) (p : Port) : Nat :=
  s.records.countP (fun r => r.notice.audience.get p)

/-! ### The stage buffer and the claims -/

/-- Entries an owner holds (05 R87). -/
def State.entryCount (s : State) (o : Owner) : Nat := s.sb.countP (fun e => decide (e.owner = o))

/-- Free places of the stage buffer (05 R85). -/
def State.stageFree (s : State) : Nat := Config.stageCapacity - s.sb.length

/-- An owner's entry at a position (05 R88). -/
def State.entryAt (s : State) (o : Owner) (k : Nat) : Option Entry :=
  s.sb.find? (fun e => decide (e.owner = o) && decide (e.position = k))

/-- An owner's entries in order of position (05 R88). -/
def State.entriesOf (s : State) (o : Owner) : List Entry :=
  (List.range (s.entryCount o)).filterMap (s.entryAt o)

/-- An owner holds an entry for an address. -/
def State.holds (s : State) (o : Owner) (x : Addr) : Bool :=
  s.sb.any (fun e => decide (e.owner = o) && decide (e.addr = x))

/-- The claim of a window (05 R94). -/
def State.claim (s : State) (w : Fin 16) : Option Port := s.claims[w]

/-- The lease state of a window (04 R68). -/
def State.lease (s : State) (w : Fin 16) : Lease := s.leases[w]

/-- The holder of a leased window. -/
def leaseHolder : Lease → Option Port
  | .leased r => some r.holder
  | .closed => none
  | .holdoff _ => none

/-- A window is LEASED to a port (04 R69). -/
def State.leasedTo (s : State) (w : Fin 16) (p : Port) : Bool :=
  decide (leaseHolder (s.lease w) = some p)

/-- STATUS word 3: bit w set for each window LEASED to the port (11 R196). -/
def State.leaseWord (s : State) (p : Port) : Word :=
  allWindows.foldl (fun acc w => if s.leasedTo w p then acc ||| (1#16 <<< w.val) else acc) 0#16

/-- Some RECOVERY entry holds an address (01 R18). -/
def State.recoveryHolds (s : State) (x : Addr) : Bool := s.holds .recovery x

/-! ### The response queue -/

/-- Free words of a response queue (03 R49). -/
def freeWords (x : Session) : Nat := Config.responseCapacity - x.responses.length

/-! ### Memory port lines (10 R185) -/

/-- CE0n: low while an access to bank 0 is in flight. -/
def State.ce0n (s : State) : Bool :=
  match s.inFlight with
  | some a => a.addr.getLsbD 19
  | none => true

/-- CE1n: low while an access to bank 1 is in flight. -/
def State.ce1n (s : State) : Bool :=
  match s.inFlight with
  | some a => !a.addr.getLsbD 19
  | none => true

/-- OEn: low during a read. -/
def State.oen (s : State) : Bool :=
  match s.inFlight with
  | some a => decide (a.kind ≠ .read)
  | none => true

/-- WEn: low during a write. -/
def State.wen (s : State) : Bool :=
  match s.inFlight with
  | some a => decide (a.kind = .read)
  | none => true

/-- MA[18:0]: the word address within the bank. -/
def State.memoryAddress (s : State) : Option (BitVec 19) := s.inFlight.map (fun a => a.addr.extractLsb' 0 19)

/-- MD[15:0] as the port drives it: the word of a write. -/
def State.memoryData (s : State) : Option Word :=
  match s.inFlight with
  | some { kind := .write d, .. } => some d
  | _ => none

end Sys2Proof.Machine
end

