-- ==== Sys2Proof/Machine/Events.lean ====
section
/-! DEFINITION. The event queue (chapter 9): raising an event, its arrival, the overflow marker and the take. -/

namespace Sys2Proof.Machine

/-- A block raises an event. The audience is taken now; an event whose audience is empty is not stored and acts on
nothing (09 R171). The others wait, in the order raised, for the EQ to take them (09 R172, R174; log 8). -/
def raise (name : EventName) (who : Concerned) (window : Option (Fin 16)) (hi lo : Word) (s : State) : State :=
  let audience := s.audience who
  if audience.a || audience.b then
    { s with raised := s.raised ++
        [{ name := name, who := who, window := window, hi := hi, lo := lo, audience := audience }] }
  else s

/-- A record is an overflow marker (09 R172). -/
def isMarker (r : EventRecord) : Bool := decide (r.notice.name = .overflow)

/-- No port has yet taken a marker: its audience is still the whole reader set (09 R172, R173). -/
def State.markerUntaken (s : State) (r : EventRecord) : Bool := decide (r.notice.audience = s.active.readers)

/-- A marker counts one more discarded event, unless a port has taken it (09 R173). -/
def State.countDiscard (s : State) (r : EventRecord) : EventRecord :=
  if isMarker r && s.markerUntaken r then { r with notice := { r.notice with lo := satSucc r.notice.lo } } else r

/-- The marker as created: class QUEUE, PART, window none, detail 1, the whole reader set (09 R172). -/
def State.newMarker (s : State) : Notice :=
  { name := .overflow, who := .part, window := none, hi := 0#16, lo := 1#16, audience := s.active.readers }

/-- A notice joins the record list at the newest end with the sequence counter and the time base; the counter
advances (09 R172). -/
def store (n : Notice) (s : State) : State :=
  { s with
    records := s.records ++ [{ seq := s.seqCounter, time := s.timeBase, notice := n }]
    seqCounter := s.seqCounter + 1#16 }

/-- The EQ takes one event with a non-empty audience: counted by a marker, turned into a marker at 31 records, or
stored (09 R172). -/
def takeNotice (n : Notice) (s : State) : State :=
  if s.records.any isMarker then { s with records := s.records.map s.countDiscard }
  else if s.records.length + 1 < Config.recordCapacity then store n s
  else store s.newMarker s

/-- EVENT_ARRIVAL: the EQ takes the oldest raised event (09 R172, R174). With none raised nothing arrives (log 9). -/
def execEventArrival (s : State) : Host.Outcome State Fault Refusal :=
  .next (match s.raised with
    | [] => s
    | n :: rest => takeNotice n { s with raised := rest })

/-- A port removed from a record's audience. -/
def withoutPort (p : Port) (r : EventRecord) : EventRecord :=
  { r with notice := { r.notice with audience := r.notice.audience.set p false } }

/-- The record list after a take by a port: the port leaves the audience of its oldest record, which leaves the
list when its audience becomes empty (09 R175). -/
def takeRecord (p : Port) : List EventRecord → List EventRecord
  | [] => []
  | r :: rest =>
    if r.notice.audience.get p then
      if r.notice.audience.get (otherPort p) then withoutPort p r :: rest else rest
    else r :: takeRecord p rest

/-- The oldest record whose audience includes a port (09 R175). -/
def State.oldestFor (s : State) (p : Port) : Option EventRecord :=
  s.records.find? (fun r => r.notice.audience.get p)

end Sys2Proof.Machine
end

