-- ==== Sys2Proof/Machine/Leases.lean ====
section
/-! DEFINITION. The lease unit (chapter 4): opening, spending, ending, and its two timers. -/

namespace Sys2Proof.Machine

/-- The lease record at the opening (04 Table 4-1): budget unlimited when 0, lifetime timer none when 0. -/
def newLease (p : Port) (key : Fin 4) (w : Window) : LeaseRecord :=
  { holder := p
    key := key
    budget := if w.budget = 0#16 then none else some w.budget
    lifetime := if w.lifetime = 0#16 then .stopped else .running (w.lifetime.toNat * 10)
    count := 0#16 }

/-- The LU opens a lease and raises LEASE_OPENED (04 R70). -/
def openLeaseFor (p : Port) (key : Fin 4) (w : Fin 16) (s : State) : State :=
  raise .leaseOpened (.port p) (some w) (BitVec.ofNat 16 key.val) (s.window w).lifetime
    (s.setLease w (.leased (newLease p key (s.window w))))

/-- What a window enters when its lease ends: CLOSED for a holdoff of 0, otherwise HOLDOFF (04 R76 (b)). -/
def afterLease (w : Window) : Lease :=
  if w.holdoff = 0#12 then .closed else .holdoff (w.holdoff.toNat * 100)

/-- The LU ends the lease on a window and raises LEASE_ENDED; a window not LEASED is left alone (04 R76). -/
def endLease (w : Fin 16) (cause : LeaseCause) (s : State) : State :=
  match s.lease w with
  | .leased r =>
    raise .leaseEnded (.port r.holder) (some w) (leaseCauseCode cause) r.count
      (s.setLease w (afterLease (s.window w)))
  | .closed => s
  | .holdoff _ => s

/-- One unit spent: the accepted-write count and the remaining budget (04 R72). -/
def spentLease (r : LeaseRecord) : LeaseRecord :=
  { r with count := satSucc r.count, budget := r.budget.map (fun b => b - 1#16) }

/-- An accepted write by the holder spends one unit; the unit that brings the budget to 0 ends the lease with cause
BUDGET (04 R72, R73). A write to a window not LEASED to the port spends nothing (04 R74). -/
def spendUnit (p : Port) (w : Fin 16) (s : State) : State :=
  match s.lease w with
  | .leased r =>
    if r.holder = p then
      let s' := s.setLease w (.leased (spentLease r))
      if (spentLease r).budget = some 0#16 then endLease w .budget s' else s'
    else s
  | .closed => s
  | .holdoff _ => s

/-- A port's session end ends its lease on a window, if it holds it (04 R78). -/
def endLeaseOf (p : Port) (cause : LeaseCause) (s : State) (w : Fin 16) : State :=
  if s.leasedTo w p then endLease w cause s else s

/-- A port's session end ends every lease it holds, in ascending window order (04 R78). -/
def endLeasesOf (p : Port) (cause : LeaseCause) (s : State) : State :=
  allWindows.foldl (endLeaseOf p cause) s

/-- LIFETIME_TIMER_EXPIRY: a running lifetime timer ends its lease with cause LIFETIME (04 R75). An expiry that finds
the lease ended, or without a timer, does nothing (04 R76, log 9). -/
def execLifetimeTimerExpiry (w : Fin 16) (s : State) : Host.Outcome State Fault Refusal :=
  .next (match s.lease w with
    | .leased r => if r.lifetime = .stopped then s else endLease w .lifetime s
    | .closed => s
    | .holdoff _ => s)

/-- HOLDOFF_TIMER_EXPIRY: the window returns to CLOSED, with no event (04 R79). -/
def execHoldoffTimerExpiry (w : Fin 16) (s : State) : Host.Outcome State Fault Refusal :=
  .next (match s.lease w with
    | .holdoff _ => s.setLease w .closed
    | .closed => s
    | .leased _ => s)

end Sys2Proof.Machine
end

