-- ==== Sys2Proof/Machine/Transactions.lean ====
section
/-! DEFINITION. The transaction controller and the stage buffer (chapter 5): lookups, staging, overflow, the outcome
word and the end of a transaction. -/

namespace Sys2Proof.Machine

/-! ### Lookups (05 R98) -/

/-- The states in which a port's own entries answer its reads (05 R98 (a)). -/
def ownReadable : TxnState → Bool
  | .staging | .overflowed | .queued | .logging => true
  | .none | .applying | .clearing => false

/-- The states in which a transaction's entries answer the reads of both ports (05 R98 (b)). -/
def committedReadable : TxnState → Bool
  | .applying | .clearing => true
  | .none | .staging | .overflowed | .queued | .logging => false

/-- The data an owner's entry holds for an address. -/
def State.staged (s : State) (o : Owner) (x : Addr) : Option Word :=
  (s.sb.find? (fun e => decide (e.owner = o) && decide (e.addr = x))).map Entry.data

/-- The data of a port's entry when its transaction's state satisfies a test. -/
def State.stagedWhen (s : State) (test : TxnState → Bool) (p : Port) (x : Addr) : Option Word :=
  if test (s.txns.get p).state then s.staged (.port p) x else none

/-- A lookup of an address for a port: own staged data, then the data of a transaction in APPLYING or CLEARING, then
a RECOVERY entry, then nothing (05 R98). -/
def State.lookup (s : State) (p : Port) (x : Addr) : Option Word :=
  (s.stagedWhen ownReadable p x).or
    ((s.stagedWhen committedReadable .a x).or
      ((s.stagedWhen committedReadable .b x).or (s.staged .recovery x)))

/-! ### Staging (05 R90) -/

/-- A transaction in STAGING or OVERFLOWED stages (01 R19). -/
def stages : TxnState → Bool
  | .staging | .overflowed => true
  | .none | .queued | .logging | .applying | .clearing => false

/-- An entry's data replaced when it is the owner's entry for the address (05 R91). -/
def overwriteEntry (o : Owner) (x : Addr) (d : Word) (e : Entry) : Entry :=
  if e.owner = o ∧ e.addr = x then { e with data := d } else e

/-- An overwrite in place (05 R91). -/
def overwriteStaged (p : Port) (x : Addr) (d : Word) (s : State) : State :=
  s.setStage (s.sb.map (overwriteEntry (.port p) x d))

/-- A new entry joins at the end of its owner's entries (05 R88). -/
def joinEntry (o : Owner) (x : Addr) (d : Word) (s : State) : State :=
  s.setStage (s.sb ++ [{ owner := o, addr := x, data := d, position := s.entryCount o }])

/-- A new entry joins and an unclaimed window is claimed in the same event (05 R92). -/
def joinStaged (p : Port) (w : Fin 16) (x : Addr) (d : Word) (s : State) : State :=
  (joinEntry (.port p) x d s).setClaim w (some p)

/-- A transaction's state replaced. -/
def setTxnState (p : Port) (t : TxnState) (s : State) : State :=
  s.setTxn p { s.txns.get p with state := t }

/-- The transaction enters OVERFLOWED: cause 0 STAGE_FULL, 1 TOO_LARGE, and the entry count held (05 R100, R101;
11 R197 (d)). -/
def overflowTxn (p : Port) (w : Fin 16) (cause : Word) (s : State) : State :=
  raise .txnOverflow (.port p) (some w) cause (BitVec.ofNat 16 (s.entryCount (.port p)))
    (setTxnState p .overflowed s)

/-- An ACCESS-class event of a write: the writing port, the window, the address (01 R24). -/
def raiseAccess (name : EventName) (p : Port) (w : Option (Fin 16)) (x : Addr) (s : State) : State :=
  raise name (.port p) w (addrHigh x) (addrLow x) s

/-- A stage-bound write, decided by the TC: absorbed in OVERFLOWED, absorbed with CONFLICT_WRITE, overwritten in
place, overflowed, or joined; what is stored spends a lease unit (05 R90, R93). -/
def stageWrite (p : Port) (w : Fin 16) (x : Addr) (d : Word) (s : State) : State :=
  if (s.txns.get p).state = .overflowed then s
  else if s.claim w = some (otherPort p) then raiseAccess .conflictWrite p (some w) x s
  else if s.holds (.port p) x then spendUnit p w (overwriteStaged p x d s)
  else if Config.stageCapacity ≤ s.sb.length then overflowTxn p w 0#16 s
  else if s.journalEntries ≤ s.entryCount (.port p) then overflowTxn p w 1#16 s
  else spendUnit p w (joinStaged p w x d s)

/-! ### The end of a transaction (05 R106, 03 R62) -/

/-- Words pushed together at the newest end of a port's response queue (03 R49). -/
def pushWords (p : Port) (ws : List Word) (s : State) : State :=
  match s.sessions.get p with
  | some x => s.setSession p (some { x with responses := x.responses ++ ws })
  | none => s

/-- The session after an outcome is offered to it: the word pushed, or the overrun flag set when the queue is full;
the outcome-awaited flag is cleared (03 R62). -/
def offered (o : TxnOutcome) (x : Session) : Session :=
  if x.responses.length < Config.responseCapacity then
    { x with responses := x.responses ++ [outcomeWord o], awaited := false }
  else { x with overrun := true, awaited := false }

/-- The SC offers the outcome word to the session that issued the COMMIT, if it is still open and awaits it
(03 R62). -/
def offerOutcome (p : Port) (linked : Bool) (o : TxnOutcome) (s : State) : State :=
  match s.sessions.get p with
  | some x => if linked && x.awaited then s.setSession p (some (offered o x)) else s
  | none => s

/-- A transaction that COMMIT has accepted (03 R62). -/
def acceptedState : TxnState → Bool
  | .queued | .logging | .applying | .clearing => true
  | .none | .staging | .overflowed => false

/-- A claim released when it names the port's transaction (05 R96). -/
def releaseClaim (p : Port) (c : Option Port) : Option Port := if c = some p then none else c

/-- Every claim of a port's transaction released (05 R96). -/
def releaseClaims (p : Port) (s : State) : State :=
  { s with claims := ⟨⟨s.claims.toList.map (releaseClaim p)⟩, by simp⟩ }

/-- An entry converted to RECOVERY (05 R89). -/
def convertEntry (p : Port) (e : Entry) : Entry := if e.owner = .port p then { e with owner := .recovery } else e

/-- What the end of a transaction leaves of the stage buffer: at APPLY_FAULT the entries are converted, otherwise
they leave (05 R89, R106). -/
def entriesAfter (p : Port) (o : TxnOutcome) (es : List Entry) : List Entry :=
  if o = .applyFault then es.map (convertEntry p) else es.filter (fun e => decide (e.owner ≠ .port p))

/-- The record, the entries, the claims and the commit queue as the end of a transaction leaves them
(05 R106 (a) to (d)). -/
def clearTxn (p : Port) (o : TxnOutcome) (s : State) : State :=
  { (releaseClaims p s) with
    sb := entriesAfter p o s.sb
    commitQueue := s.commitQueue.filter (fun q => decide (q ≠ p))
    txns := s.txns.set p Txn.empty }

/-- TXN_OUTCOME: the outcome, whether numbered, the number, the entry count at the end (05 R106 (e)). -/
def raiseOutcome (p : Port) (o : TxnOutcome) (number : Option Word) (count : Nat) (s : State) : State :=
  raise .txnOutcome (.port p) none (outcomeDetail o number.isSome count) (number.getD 0#16) s

/-- A port's transaction ends with an outcome; for an accepted commit the outcome word is offered (05 R106, 03 R62). -/
def endTxn (p : Port) (o : TxnOutcome) (s : State) : State :=
  let t := s.txns.get p
  let ended := raiseOutcome p o t.number (s.entryCount (.port p)) (clearTxn p o s)
  if acceptedState t.state then offerOutcome p t.linked o ended else ended

end Sys2Proof.Machine
end

