-- ==== Sys2Proof/Machine/Engine.lean ====
section
/-! DEFINITION. The journal engine outside its access completions (chapter 6): the words it writes, the take, the
stop, the ends of a transaction in the engine and the entry into FAULTED. -/

namespace Sys2Proof.Machine

/-! ### The words of a commit (06 Table 6-3, R121) -/

/-- The entries the engine works on, in order of position (06 R118, R121). -/
def State.engineEntries (s : State) : List Entry :=
  match s.engine.current with
  | some o => s.entriesOf o
  | none => []

/-- The number the engine gave its current transaction at the take (06 R117). -/
def State.engineNumber (s : State) : Word :=
  match s.engine.current with
  | some (.port p) => (s.txns.get p).number.getD 0#16
  | some .recovery => 0#16
  | none => 0#16

/-- The address of a word of the journal area (11 R194). -/
def State.journalAddr (s : State) (offset : Nat) : Addr := s.active.journalBase + BitVec.ofNat 20 offset

/-- The word at a place of a list, 0 beyond its end. -/
def wordAt (ws : List Word) (i : Nat) : Word := ws.getD i 0#16

/-- The entry at a position of those the engine works on. -/
def State.engineEntry (s : State) (k : Nat) : Option Entry := s.engine.current.bind (fun o => s.entryAt o k)

/-- How many entries the engine works on: n of 06 Table 6-3. -/
def State.engineCount (s : State) : Nat := (s.engine.current.map s.entryCount).getD 0

/-- Header words 1 to 4 of the current transaction: number, entry count, entries CRC, header CRC (06 R113). -/
def State.headerValue (s : State) (h : Nat) : Word :=
  let n := BitVec.ofNat 16 s.engineCount
  let crc := entriesCrc s.engineEntries
  wordAt [0#16, s.engineNumber, n, crc, headerCrc s.engineNumber n crc] h

/-- The address of a word of the engine's course. -/
def State.roleAddr (s : State) : WordRole → Addr
  | .slot i j => s.journalAddr (8 + 3 * i + j)
  | .header h => s.journalAddr h
  | .logged => s.journalAddr 0
  | .home k => ((s.engineEntry k).map Entry.addr).getD 0#20
  | .clear => s.journalAddr 0
  | .restore => s.journalAddr 0
  | .format h => s.journalAddr h
  | .formatClear => s.journalAddr 0
  | .damagedClear => s.journalAddr 0

/-- The value of a word of the engine's course (06 Table 6-3, R121, R125; 07 R147, R149). -/
def State.roleValue (s : State) : WordRole → Word
  | .slot i j => wordAt (((s.engineEntry i).map slotWords).getD []) j
  | .header h => s.headerValue h
  | .logged => Config.loggedWord
  | .home k => ((s.engineEntry k).map Entry.data).getD 0#16
  | .clear => Config.clearWord
  | .restore => Config.clearWord
  | .format _ => 0#16
  | .formatClear => Config.clearWord
  | .damagedClear => Config.clearWord

/-- The word that the engine places in hand for a role: attempt 1, no write of it granted yet (06 R114). -/
def State.freshWord (s : State) (role : WordRole) : WordInHand :=
  { role := role, addr := s.roleAddr role, value := s.roleValue role, attempt := 1, granted := false }

/-- The engine places a word in hand and requests the memory port for its write (06 R114). -/
def placeWord (role : WordRole) (s : State) : State :=
  let w := s.freshWord role
  (s.setEngine { s.engine with word := some w }).setEngineRequest (some { kind := .write w.value, addr := w.addr })

/-- The engine requests the memory port to read an address (06 R114, 07 R146). -/
def requestEngineRead (x : Addr) (s : State) : State := s.setEngineRequest (some { kind := .read, addr := x })

/-- The engine state replaced. -/
def setEngineState (e : EngineState) (s : State) : State := s.setEngine { s.engine with state := e }

/-! ### The take (06 R117) -/

/-- The engine record at a take. -/
def takenEngine (p : Port) (e : Engine) : Engine :=
  { e with state := .logging, current := some (.port p), stop := none, restoring := false }

/-- The transaction record at a take: LOGGING with the next transaction number. -/
def takenTxn (number : Word) (t : Txn) : Txn := { t with state := .logging, number := some number }

/-- The IDLE engine takes the head of the commit queue, numbers it and places slot 0, word 0 in hand (06 R117). An
engine that is not IDLE, or finds the queue empty, takes nothing (05 R105, 06 R116, 08 R162). -/
def engineTake (s : State) : State :=
  match s.engine.state, s.commitQueue with
  | .idle, p :: rest =>
    placeWord (.slot 0 0)
      (({ s with commitQueue := rest }.setTxn p (takenTxn s.engine.nextNumber (s.txns.get p))).setEngine
        (takenEngine p s.engine))
  | _, _ => s

/-- ENGINE_TAKE (06 R117). -/
def execEngineTake (s : State) : Host.Outcome State Fault Refusal :=
  .next (if s.ready then engineTake s else s)

/-! ### Ends (06 R112, R126, R130) -/

/-- The record when the current transaction ends: current transaction, word in hand and stop cause none, restoring
clear, no request of the engine waiting (06 R112). -/
def endEngine (e : EngineState) (s : State) : State :=
  (s.setEngine { s.engine with
    state := e, current := none, word := none, restoring := false, stop := none }).setEngineRequest none

/-- The outcome of a transaction that ends in LOGGING (06 R126). -/
def loggingOutcome : Option StopCause → TxnOutcome
  | some .abort => .aborted
  | some .fence => .fenced
  | none => .logFailed

/-- The current port transaction ends with an outcome; the RECOVERY entries under replay are no transaction. -/
def endCurrent (o : TxnOutcome) (s : State) : State :=
  match s.engine.current with
  | some (.port p) => endTxn p o s
  | some .recovery => s
  | none => s

/-- The current transaction ends in LOGGING and the engine returns to IDLE (06 R124, R125). -/
def endLogging (s : State) : State := endEngine .idle (endCurrent (loggingOutcome s.engine.stop) s)

/-- A restoring write begins: the flag is set and the state word is placed in hand with CLEAR (06 R125). -/
def beginRestoring (s : State) : State := placeWord .restore (s.setEngine { s.engine with restoring := true })

/-- What the engine does once a stop has been taken and the memory port is free of its activity: a restoring write
when a write of LOGGED was granted, otherwise the end of the transaction (06 R124). -/
def settleStop (s : State) : State :=
  match s.engine.word with
  | some w => if w.role = .logged ∧ w.granted = true then beginRestoring s else endLogging s
  | none => endLogging s

/-- The engine has the access in flight (10 R185). -/
def State.engineInFlight (s : State) : Bool :=
  match s.inFlight with
  | some a => decide (a.holder = .engine)
  | none => false

/-- The stop cause recorded, if none is yet recorded (06 R124). -/
def recordStop (c : StopCause) (s : State) : State :=
  s.setEngine { s.engine with stop := some (s.engine.stop.getD c) }

/-- A stop of the transaction in LOGGING. The cause is recorded; a restoring write is not otherwise changed; a
request not yet granted is withdrawn; a granted access is let finish first (06 R124, R125). -/
def stopEngine (c : StopCause) (s : State) : State :=
  let s1 := recordStop c s
  if s.engine.restoring then s1
  else
    let s2 := s1.setEngineRequest none
    if s2.engineInFlight then s2 else settleStop s2

/-- The engine has been told to stop in LOGGING and makes no restoring write (06 R124). -/
def State.stopping (s : State) : Bool :=
  decide (s.engine.state = .logging) && s.engine.stop.isSome && !s.engine.restoring

/-- Transactions still QUEUED end with an outcome (06 R130 (c), 08 R162). -/
def endQueued (o : TxnOutcome) (s : State) : State := s.commitQueue.foldl (fun t p => endTxn p o t) s

/-- The engine enters FAULTED after its current transaction has ended: ENGINE_FAULT with the phase (0 LOGGING,
1 APPLYING, 2 CLEARING) and the failed address, then the end of a QUEUED transaction (06 R130). -/
def enterFaulted (phase : BitVec 4) (x : Addr) (s : State) : State :=
  endQueued .engineFault
    (raise .engineFault .part none (phaseAndHigh phase x) (addrLow x) (endEngine .faulted s))

/-! ### Completions of a port transaction's words (06 R118 to R123) -/

/-- The commit point (06 R120). -/
def commitPoint (s : State) : State :=
  match s.engine.current with
  | some (.port p) => placeWord (.home 0) (setTxnState p .applying (setEngineState .applying s))
  | some .recovery => s
  | none => s

/-- After the last home write: CLEARING, with the state word CLEAR in hand (06 R121, 07 R151). -/
def beginClearing (s : State) : State :=
  match s.engine.current with
  | some (.port p) => placeWord .clear (setTxnState p .clearing (setEngineState .clearing s))
  | some .recovery => placeWord .clear (setEngineState .clearing s)
  | none => s

/-- The CLEAR write of a port transaction has completed: COMMITTED (06 R123). -/
def commitDone (p : Port) (s : State) : State :=
  let number := (s.txns.get p).number.getD 0#16
  let ended := endTxn p .committed s
  endEngine .idle (ended.setEngine { ended.engine with lastCleared := number })

/-- The first attempt of header word 1 has completed on the memory port: the next transaction number advances
(06 R119). -/
def advanceNumber (w : WordInHand) (s : State) : State :=
  if w.role = .header 1 ∧ w.attempt = 1 then
    s.setEngine { s.engine with nextNumber := s.engineNumber + 1#16 }
  else s

end Sys2Proof.Machine
end

