-- ==== Sys2Proof/Machine/Recognizer.lean ====
section
/-! DEFINITION. The sequence recognizer (chapter 2): one observed write, breaks, completion, lockout, its two
timers, and the opening of a session (03 R45). -/

namespace Sys2Proof.Machine

/-- A key of the profile in force (02 R25). -/
def State.key (s : State) (k : Fin 4) : Key := s.active.keys[k]

/-- A key is enabled when its step count is not 0 (02 R25). -/
def keyEnabled (k : Key) : Bool := decide (k.stepCount ≠ 0#4)

/-- A step of a key. -/
def keyStep (k : Key) (i : Nat) : KeyStep := (k.steps[i]?).getD emptyStep

/-- A write matches a step: same address, and data and value agree wherever the mask has a one (02 R26). -/
def stepMatches (t : KeyStep) (x : Addr) (d : Word) : Bool :=
  decide (x = t.addr) && decide (d &&& t.mask = t.value &&& t.mask)

/-- The progress of a key after an observed write, from the progress before it (02 R29). -/
def newProgress (k : Key) (p : Nat) (x : Addr) (d : Word) : Nat :=
  if keyEnabled k then
    if stepMatches (keyStep k p) x d then p + 1
    else if stepMatches (keyStep k 0) x d then 1
    else 0
  else 0

/-- A key advances on a write by case (a) or (b) (02 R29). -/
def keyAdvances (k : Key) (p : Nat) (x : Addr) (d : Word) : Bool :=
  keyEnabled k && (stepMatches (keyStep k p) x d || stepMatches (keyStep k 0) x d)

/-- A key is broken: progress 2 or more and no match of its next step (02 R30). -/
def keyBroken (k : Key) (p : Nat) (x : Addr) (d : Word) : Bool :=
  keyEnabled k && decide (2 ≤ p) && !stepMatches (keyStep k p) x d

/-- A key completes: case (a) brings its progress to its step count (02 R31). -/
def keyCompletes (k : Key) (p : Nat) (x : Addr) (d : Word) : Bool :=
  keyEnabled k && stepMatches (keyStep k p) x d && decide (p + 1 = k.stepCount.toNat)

/-- The progress of all four keys after an observed write. -/
def movedProgress (s : State) (q : Sqr) (x : Addr) (d : Word) : Vector Nat 4 :=
  #v[newProgress (s.key 0) q.progress[0] x d, newProgress (s.key 1) q.progress[1] x d,
     newProgress (s.key 2) q.progress[2] x d, newProgress (s.key 3) q.progress[3] x d]

/-- Progress 0 for every key. -/
def noProgress : Vector Nat 4 := #v[0, 0, 0, 0]

/-- The break threshold F. -/
def State.breakLimit (s : State) : Nat := s.active.breakLimit.toNat

/-- The recognizer in lockout (02 R36 (a) to (c)); the break count stays. -/
def lockedSqr (s : State) (q : Sqr) : Sqr :=
  { state := .lockedOut, progress := noProgress, stepTimer := .stopped, breaks := q.breaks,
    lockoutTimer := .running (s.active.lockoutTime.toNat * 1000) }

/-- The SQR enters LOCKED_OUT and raises KEY_LOCKOUT with the cause (0 WRITE, 1 STEP_TIMER) and the lockout time
(02 R36, 11 R197 (a)). -/
def enterLockout (p : Port) (cause : Word) (s : State) : State :=
  raise .keyLockout (.port p) none cause s.active.lockoutTime (s.setSqr p (lockedSqr s (s.sqr.get p)))

/-- The recognizer while its port has a session (02 R31, R39). -/
def sessionSqr : Sqr := { Sqr.fresh with state := .session }

/-- The idle timer of a session, started afresh (03 R46). -/
def State.idleInterval (s : State) : Timer := .running (s.active.sessionIdle.toNat * 100)

/-- A session record as it opens (03 Table 3-1). -/
def newSession (s : State) (k : Fin 4) : Session :=
  { key := k, txn := (s.key k).txn, events := (s.key k).events, idleTimer := s.idleInterval,
    responses := [], overrun := false, awaited := false }

/-- The SC creates a port's session record and raises SESSION_OPENED with the key index (03 R45). -/
def openSession (p : Port) (k : Fin 4) (s : State) : State :=
  raise .sessionOpened (.port p) none 0#16 (BitVec.ofNat 16 k.val) (s.setSession p (some (newSession s k)))

/-- A key completes: the recognizer is cleared and enters SESSION, then the SC opens the session (02 R31). -/
def completeKey (p : Port) (k : Fin 4) (s : State) : State := openSession p k (s.setSqr p sessionSqr)

/-- The step timer after a write that neither completed a key nor brought lockout (02 R33). -/
def stepTimerAfter (s : State) (advanced : Bool) : Timer :=
  if advanced then .running s.active.stepTime.toNat else .stopped

/-- A break is counted with the recognizer otherwise as given; at F the lockout begins (02 R30, R34, R36). -/
def countBreak (p : Port) (cause : Word) (q : Sqr) (s : State) : State :=
  let s' := s.setSqr p { q with breaks := q.breaks + 1 }
  if q.breaks + 1 = s.breakLimit then enterLockout p cause s' else s'

/-- The lowest-numbered key that completes on a write (02 R31). -/
def State.completing (s : State) (q : Sqr) (x : Addr) (d : Word) : Option (Fin 4) :=
  allKeys.find? (fun k => keyCompletes (s.key k) q.progress[k] x d)

/-- The recognizer after its keys have moved and its step timer is set (02 R29, R33). -/
def movedSqr (s : State) (q : Sqr) (x : Addr) (d : Word) : Sqr :=
  { q with
    progress := movedProgress s q x d
    stepTimer := stepTimerAfter s (allKeys.any (fun k => keyAdvances (s.key k) q.progress[k] x d)) }

/-- A WATCHING recognizer takes an observed write whole (02 R29 to R33, R36). -/
def takeWrite (p : Port) (x : Addr) (d : Word) (s : State) : State :=
  let q := s.sqr.get p
  match s.completing q x d with
  | some k => completeKey p k s
  | none =>
    if allKeys.any (fun k => keyBroken (s.key k) q.progress[k] x d) then
      countBreak p 0#16 (movedSqr s q x d) s
    else s.setSqr p (movedSqr s q x d)

/-- A write is observed only by a WATCHING recognizer, with the part READY and not FENCED (02 R28). -/
def State.observes (s : State) (p : Port) : Bool :=
  decide ((s.sqr.get p).state = .watching) && s.ready && decide (s.fence = .opened)

/-- Step 7: a write is passed to the port's recognizer, which observes it or drops it (01 R23, 02 R28). -/
def observe (p : Port) (x : Addr) (d : Word) (s : State) : State :=
  if s.observes p then takeWrite p x d s else s

/-- The recognizer with its progress cleared and its step timer stopped. -/
def clearedSqr (q : Sqr) : Sqr := { q with progress := noProgress, stepTimer := .stopped }

/-- Some key had progressed two steps or more (02 R34). -/
def partWay (q : Sqr) : Bool := allKeys.any (fun k => decide (2 ≤ q.progress[k]))

/-- STEP_TIMER_EXPIRY: progress is cleared, one break is counted when some progress was 2 or more (02 R34). An expiry
of a stopped timer does not happen (02 R35, log 9). -/
def execStepTimerExpiry (p : Port) (s : State) : Host.Outcome State Fault Refusal :=
  .next (
    let q := s.sqr.get p
    if q.state = .watching ∧ q.stepTimer ≠ .stopped then
      if partWay q then countBreak p 1#16 (clearedSqr q) s else s.setSqr p (clearedSqr q)
    else s)

/-- LOCKOUT_TIMER_EXPIRY: WATCHING again with break count 0, and KEY_LOCKOUT_END (02 R37). -/
def execLockoutTimerExpiry (p : Port) (s : State) : Host.Outcome State Fault Refusal :=
  .next (
    if (s.sqr.get p).state = .lockedOut ∧ (s.sqr.get p).lockoutTimer ≠ .stopped then
      raise .keyLockoutEnd (.port p) none 0#16 0#16 (s.setSqr p Sqr.fresh)
    else s)

end Sys2Proof.Machine
end

