-- ==== Sys2Proof/Machine/Sessions.lean ====
section
/-! DEFINITION. The session controller (chapter 3): the end of a session, the reads of the command address and the
verbs of the command word. -/

namespace Sys2Proof.Machine

/-! ### The end of a session (03 R65) -/

/-- The cause that a session end gives the leases it ends (04 R78). -/
def leaseCauseOf : SessionCause → LeaseCause
  | .ended => .sessionEnd
  | .idle => .sessionEnd
  | .fence => .fence

/-- Step (b) and (c): a transaction in STAGING or OVERFLOWED ends DISCARDED; the link of any other is cut
(03 R65, 05 R107). -/
def releaseTxn (p : Port) (s : State) : State :=
  if stages (s.txns.get p).state then endTxn p .discarded s
  else s.setTxn p { s.txns.get p with linked := false }

/-- A session ends: leases, transaction, response queue and record, recognizer, SESSION_ENDED (03 R65). -/
def closeSession (p : Port) (cause : SessionCause) (s : State) : State :=
  let s1 := releaseTxn p (endLeasesOf p (leaseCauseOf cause) s)
  raise .sessionEnded (.port p) none 0#16 (sessionCauseCode cause) ((s1.setSession p none).setSqr p Sqr.fresh)

/-- The end of a port's session, if it has one: a second cause finds the port out of session (08 R161). -/
def endSession (p : Port) (cause : SessionCause) (s : State) : State :=
  match s.sessions.get p with
  | some _ => closeSession p cause s
  | none => s

/-- IDLE_TIMER_EXPIRY: the session ends with cause IDLE (03 R46). -/
def execIdleTimerExpiry (p : Port) (s : State) : Host.Outcome State Fault Refusal := .next (endSession p .idle s)

/-- The idle timer is started afresh at the first decision on any access of the port (03 R46). -/
def restartIdle (p : Port) (s : State) : State :=
  match s.sessions.get p with
  | some x => s.setSession p (some { x with idleTimer := s.idleInterval })
  | none => s

/-! ### Reads of the command address (03 R50) -/

/-- The session status word as composed now (11 Table 11-6). -/
def State.statusWord (s : State) (p : Port) (x : Session) : Word :=
  sessionStatusWord x.key x.overrun (s.alert p) (s.txns.get p).state

/-- What a read of the command address returns: the oldest response word, or the status word (03 R50). -/
def State.commandAnswer (s : State) (p : Port) (x : Session) : Word :=
  match x.responses with
  | w :: _ => w
  | [] => s.statusWord p x

/-- The session after that read: the oldest word removed, or the overrun flag cleared (03 R50). -/
def afterCommandRead (x : Session) : Session :=
  match x.responses with
  | _ :: rest => { x with responses := rest }
  | [] => { x with overrun := false }

/-! ### Verbs (03 sections 3.5 to 3.8) -/

/-- The response word of a verb is pushed, with the words that follow it (03 R49, R53). -/
def respond (p : Port) (verb : Byte) (r : Result) (more : List Word) (s : State) : State :=
  pushWords p (responseWord verb r :: more) s

/-- The window an operand names, none above 15 (11 R195). -/
def windowOperand (operand : Byte) : Option (Fin 16) :=
  if h : operand.toNat < 16 then some ⟨operand.toNat, h⟩ else none

/-- An enabled window an operand names (03 R54 (a), R55). -/
def State.enabledOperand (s : State) (operand : Byte) : Option (Fin 16) :=
  (windowOperand operand).filter (fun w => (s.window w).enable)

/-- Test (b) of OPEN: GUARDED, the session's key in the key mask, the port in the port mask (03 R54). -/
def State.leasable (s : State) (p : Port) (key : Fin 4) (w : Fin 16) : Bool :=
  decide ((s.window w).policy = .guarded) && (s.window w).keyMask.getLsbD key.val && (s.window w).ports.get p

/-- The answer to OPEN of an enabled window, in the order of 03 R54 (b) to (f). -/
def State.openResult (s : State) (p : Port) (key : Fin 4) (w : Fin 16) : Result :=
  if !s.leasable p key w then .denied
  else if s.leasedTo w p then .busy
  else if s.leasedTo w (otherPort p) || decide (s.claim w = some (otherPort p)) then .conflict
  else if s.lease w = .closed then .ok
  else .holdoff

/-- OPEN w (03 R54, 04 R70). -/
def scOpen (p : Port) (x : Session) (operand : Byte) (s : State) : State :=
  match s.enabledOperand operand with
  | none => respond p 0x01#8 .badArg [] s
  | some w =>
    let r := s.openResult p x.key w
    let s' := respond p 0x01#8 r [] s
    if r = .ok then openLeaseFor p x.key w s' else s'

/-- CLOSE w (03 R55, 04 R77). -/
def scClose (p : Port) (operand : Byte) (s : State) : State :=
  match s.enabledOperand operand with
  | none => respond p 0x02#8 .badArg [] s
  | some w =>
    if s.leasedTo w p then endLease w .close (respond p 0x02#8 .ok [] s) else respond p 0x02#8 .none [] s

/-- The answer to BEGIN (03 R56). -/
def State.beginResult (s : State) (p : Port) (x : Session) : Result :=
  if !x.txn then .denied
  else if s.journalEntries = 0 then .none
  else if (s.txns.get p).state ≠ .none then .busy
  else if s.engine.state = .faulted then .engineFault
  else .ok

/-- A transaction as BEGIN creates it (05 R85). -/
def Txn.begun : Txn := { state := .staging, number := none, linked := true }

/-- BEGIN (03 R56, 05 R85). -/
def scBegin (p : Port) (x : Session) (s : State) : State :=
  let r := s.beginResult p x
  let s' := respond p 0x03#8 r [] s
  if r = .ok then
    raise .txnBegun (.port p) none 0#16 (BitVec.ofNat 16 s.stageFree) (s'.setTxn p Txn.begun)
  else s'

/-- The answer to COMMIT (03 R57). -/
def State.commitResult (s : State) (p : Port) (x : Session) : Result :=
  if !x.txn then .denied
  else match (s.txns.get p).state with
    | .none => .none
    | .overflowed => .tooLarge
    | .queued => .busy
    | .logging => .busy
    | .applying => .busy
    | .clearing => .busy
    | .staging =>
      if s.engine.state = .faulted then .engineFault
      else if s.entryCount (.port p) = 0 then .ok
      else .accepted

/-- The outcome-awaited flag of a port's session is set (03 R57 (g)). -/
def setAwaited (p : Port) (s : State) : State :=
  match s.sessions.get p with
  | some x => s.setSession p (some { x with awaited := true })
  | none => s

/-- The transaction joins the commit queue at its tail as QUEUED (05 R104 (b)). -/
def queueTxn (p : Port) (s : State) : State :=
  setTxnState p .queued { s with commitQueue := s.commitQueue ++ [p] }

/-- A join that leaves two transactions in the queue while the engine is IDLE makes the engine take the older in the
same event (06 R116 (b)). -/
def takeWhenTwo (s : State) : State := if 2 ≤ s.commitQueue.length then engineTake s else s

/-- COMMIT (03 R57, 05 R104). -/
def scCommit (p : Port) (x : Session) (s : State) : State :=
  let r := s.commitResult p x
  let s' := respond p 0x04#8 r [] s
  if r = .ok then endTxn p .empty s'
  else if r = .accepted then takeWhenTwo (setAwaited p (queueTxn p s'))
  else s'

/-- The answer to ABORT (03 R58). -/
def State.abortResult (s : State) (p : Port) (x : Session) : Result :=
  if !x.txn then .denied
  else match (s.txns.get p).state with
    | .none => .none
    | .applying => .tooLate
    | .clearing => .tooLate
    | .staging => .ok
    | .overflowed => .ok
    | .queued => .ok
    | .logging => .ok

/-- ABORT: at once from STAGING, OVERFLOWED and QUEUED, through the engine's stop from LOGGING (03 R58, 05 R105). -/
def scAbort (p : Port) (x : Session) (s : State) : State :=
  let r := s.abortResult p x
  let s' := respond p 0x05#8 r [] s
  if r = .ok then
    if (s.txns.get p).state = .logging then stopEngine .abort s' else endTxn p .aborted s'
  else s'

/-- The four status words of STATUS (03 R59, 11 Table 11-6). -/
def State.statusWords (s : State) (p : Port) : List Word :=
  [statusTxnWord (s.txns.get p).state (s.entryCount (.port p)), s.engine.lastCleared, s.leaseWord p,
   statusEngineWord s.engine.state (s.recordsFor p)]

/-- STATUS (03 R59). -/
def scStatus (p : Port) (s : State) : State := respond p 0x06#8 .ok (s.statusWords p) s

/-- NEXT_EVENT (03 R60, 09 R175). -/
def scNextEvent (p : Port) (x : Session) (s : State) : State :=
  if !x.events || !s.reader p then respond p 0x07#8 .denied [] s
  else match s.oldestFor p with
    | none => respond p 0x07#8 .none [] s
    | some r => respond p 0x07#8 .ok (recordWords r) { s with records := takeRecord p s.records }

/-- ALERT_MASK m (03 R61). -/
def scAlertMask (p : Port) (operand : Byte) (s : State) : State :=
  respond p 0x08#8 .ok [] (s.setAlertMask p operand)

/-- END (03 R64). -/
def scEnd (p : Port) (s : State) : State := endSession p .ended s

/-- A command whose verb byte is unknown (03 R53). -/
def scBadVerb (p : Port) (verb : Byte) (s : State) : State := respond p verb .badVerb [] s

/-- A command that fails the space test: the overrun flag and COMMAND_OVERRUN (03 R51). -/
def overrunCommand (p : Port) (x : Session) (command : Word) (s : State) : State :=
  raise .commandOverrun (.port p) none command (BitVec.ofNat 16 (freeWords x))
    (s.setSession p (some { x with overrun := true }))

/-- A command that has passed the space test is performed by its verb (03 R53). -/
def performVerb (p : Port) (x : Session) (command : Word) (s : State) : State :=
  let operand := operandByte command
  match (verbByte command).toNat with
  | 1 => scOpen p x operand s
  | 2 => scClose p operand s
  | 3 => scBegin p x s
  | 4 => scCommit p x s
  | 5 => scAbort p x s
  | 6 => scStatus p s
  | 7 => scNextEvent p x s
  | 8 => scAlertMask p operand s
  | 9 => scEnd p s
  | _ => scBadVerb p (verbByte command) s

/-- The SC takes a command word: the space test, then the verb (03 R51, R53). -/
def performCommand (p : Port) (x : Session) (command : Word) (s : State) : State :=
  if freeWords x < verbNeed (verbByte command) then overrunCommand p x command s
  else performVerb p x command s

end Sys2Proof.Machine
end

