-- ==== Sys2Proof/Machine/Access.lean ====
section
/-! DEFINITION. Client cycles and the order of decision (chapters 1 and 10): the take of a cycle, its course, its
completion, and the commands that are client cycles. -/

namespace Sys2Proof.Machine

/-! ### The cycle at the port (10 R181 to R183) -/

/-- The cycle record at the take: HELD (10 R181), with the abandoned flag when the client removes its strobes while
the port is HELD with this cycle (10 R183). -/
def heldPort (kind : AccessKind) (x : Addr) (gone : Bool) (c : ClientPort) : ClientPort :=
  { c with state := .held, cycle := some { kind := kind, addr := x, answer := none, abandoned := gone } }

/-- The port once its cycle's course is complete: ENDING, driving the answer of a read; an abandoned cycle drives
nothing and the port is IDLE in the same event (10 R182, R183). -/
def completedPort (answer : Option Word) (c : ClientPort) : ClientPort :=
  match c.cycle with
  | some y =>
    if y.abandoned then { c with state := .idle, cycle := none }
    else { c with state := .ending, cycle := some { y with answer := answer } }
  | none => { c with state := .idle }

/-- WAIT is released (10 R182). -/
def completeCycle (p : Port) (answer : Option Word) (s : State) : State :=
  s.setPort p (completedPort answer (s.ports.get p))

/-- The answer of a cycle the part settles with a fixed word: a read returns it, a write has none. -/
def fixedAnswer (kind : AccessKind) (w : Word) : Option Word :=
  match kind with
  | .read => some w
  | .write _ => none

/-- Step 1: the early-access count of the port (01 R10). -/
def countEarly (p : Port) (s : State) : State :=
  s.setPort p { s.ports.get p with early := satSucc (s.ports.get p).early }

/-! ### Courses (01 Table 1-3) -/

/-- Courses of a read. -/
inductive ReadCourse where
  | fill
  | answered (w : Word)
  | forward
  deriving DecidableEq, Repr

/-- Courses of a write. -/
inductive WriteCourse where
  /-- step 3 -/
  | reserved
  /-- step 4 -/
  | portDenied (w : Fin 16)
  /-- step 6a -/
  | fenced
  /-- step 6b -/
  | denied (w : Option (Fin 16))
  /-- steps 6c and 6e -/
  | conflict (w : Option (Fin 16))
  /-- step 6d -/
  | stage (w : Fin 16)
  /-- step 6e -/
  | forward
  deriving DecidableEq, Repr

/-- Step 4: the port is in the port mask of the window; the background admits both (01 R13). -/
def State.admits (s : State) (p : Port) (w : Option (Fin 16)) : Bool :=
  match w with
  | some i => (s.window i).ports.get p
  | none => true

/-- Step 5 for a read (01 R14), after steps 3 and 4 (01 R12, R13). -/
def State.readCourse (s : State) (p : Port) (x : Addr) : ReadCourse :=
  let w := s.windowOf x
  if s.inJournal x then .fill
  else if !s.admits p w then .fill
  else if w.any (fun i => decide ((s.window i).policy = .hidden)) then .fill
  else match s.lookup p x with
    | some v => .answered v
    | none => .forward

/-- Step 6b: the policy permits the port's write (01 R17). -/
def State.permits (s : State) (p : Port) (w : Option (Fin 16)) : Bool :=
  match w with
  | some i =>
    match (s.window i).policy with
    | .openAccess => true
    | .guarded => s.leasedTo i p
    | .readOnly => false
    | .hidden => false
  | none => decide (s.active.background = .openAccess)

/-- Step 6d: the write is stage-bound (01 R19). -/
def State.stageBound (s : State) (p : Port) (i : Fin 16) : Bool :=
  (s.window i).enable && (s.window i).transactional && stages (s.txns.get p).state

/-- Steps 6d and 6e (01 R19, R20). -/
def State.directCourse (s : State) (p : Port) (w : Option (Fin 16)) : WriteCourse :=
  match w with
  | some i =>
    if s.stageBound p i then .stage i
    else if (s.claim i).isSome then .conflict (some i)
    else .forward
  | none => .forward

/-- Step 6, which a grant repeats (01 R16 to R21). -/
def State.writeStep6 (s : State) (p : Port) (x : Addr) : WriteCourse :=
  let w := s.windowOf x
  if s.fence = .fenced then .fenced
  else if !s.permits p w then .denied w
  else if s.recoveryHolds x then .conflict w
  else s.directCourse p w

/-- The course of a write from step 3 on (01 Table 1-3). -/
def State.writeCourse (s : State) (p : Port) (x : Addr) : WriteCourse :=
  if s.inJournal x then .reserved
  else match s.windowOf x with
    | some i => if (s.window i).ports.get p then s.writeStep6 p x else .portDenied i
    | none => s.writeStep6 p x

/-! ### Applying a course -/

/-- A client port's request joins the waiting set (10 R186). -/
def requestClient (p : Port) (kind : AccessKind) (x : Addr) (s : State) : State :=
  s.setClientRequest p (some { kind := kind, addr := x })

/-- The course of a read is taken. -/
def applyRead (p : Port) (x : Addr) (course : ReadCourse) (s : State) : State :=
  match course with
  | .fill => completeCycle p (some s.active.fill) s
  | .answered v => completeCycle p (some v) s
  | .forward => requestClient p .read x s

/-- An absorbed or staged write is passed to the recognizer and its cycle completes (01 R23, 10 Table 10-2). -/
def settleWrite (p : Port) (x : Addr) (d : Word) (s : State) : State := completeCycle p none (observe p x d s)

/-- The FM counts an absorbed write (08 R159). -/
def countAbsorbed (s : State) : State := { s with absorbed := satSucc s.absorbed }

/-- The course of a write is taken: absorbed with its event or count, staged, or forwarded. A write absorbed at step
6a is not observed (01 R16, R23). -/
def applyWrite (p : Port) (x : Addr) (d : Word) (course : WriteCourse) (s : State) : State :=
  match course with
  | .reserved => settleWrite p x d (raiseAccess .reservedWrite p none x s)
  | .portDenied w => settleWrite p x d (raiseAccess .portDenied p (some w) x s)
  | .fenced => completeCycle p none (countAbsorbed s)
  | .denied w => settleWrite p x d (raiseAccess .writeDenied p w x s)
  | .conflict w => settleWrite p x d (raiseAccess .conflictWrite p w x s)
  | .stage w => settleWrite p x d (stageWrite p w x d s)
  | .forward => requestClient p (.write d) x s

/-! ### The first decision (01 section 1.3) -/

/-- Step 2: the address is the port's command address and the port has a session (01 R11). -/
def State.sessionAt (s : State) (p : Port) (x : Addr) : Option Session :=
  if x = s.commandAddress p then s.sessions.get p else none

/-- The SC takes an access to the command address (03 R48): a read of the response queue, or a command word. -/
def takeCommandAccess (p : Port) (session : Session) (kind : AccessKind) (s : State) : State :=
  match kind with
  | .read =>
    completeCycle p (some (s.commandAnswer p session)) (s.setSession p (some (afterCommandRead session)))
  | .write d => completeCycle p none (performCommand p session d s)

/-- Steps 3 to 6. -/
def judgeAccess (p : Port) (kind : AccessKind) (x : Addr) (s : State) : State :=
  match kind with
  | .read => applyRead p x (s.readCourse p x) s
  | .write d => applyWrite p x d (s.writeCourse p x) s

/-- The first decision after READY: the idle timer is restarted, then steps 2 to 6 (01 R11, 03 R46). -/
def decideAccess (p : Port) (kind : AccessKind) (x : Addr) (s : State) : State :=
  let s' := restartIdle p s
  match s'.sessionAt p x with
  | some session => takeCommandAccess p session kind s'
  | none => judgeAccess p kind x s'

/-- A cycle just taken: in reset it is completed with 0xFFFF and not counted (07 R135), before READY it is settled at
step 1 (01 R10), and from then on it is decided. -/
def settleCycle (p : Port) (kind : AccessKind) (x : Addr) (s : State) : State :=
  if s.stage = .stopped then completeCycle p (fixedAnswer kind Config.fillBeforeReady) s
  else if s.ready then decideAccess p kind x s
  else completeCycle p (fixedAnswer kind Config.fillBeforeReady) (countEarly p s)

/-- A port takes a cycle in IDLE; in HELD and in ENDING none is taken, whatever the strobes do (10 R181). Without
supply the part takes no cycle (07 R135, log 9). -/
def clientCycle (p : Port) (kind : AccessKind) (x : Addr) (gone : Bool) (s : State) : State :=
  if s.supply ∧ (s.ports.get p).state = .idle then
    settleCycle p kind x (s.setPort p (heldPort kind x gone (s.ports.get p)))
  else s

/-- A command word written by a port to its command address (03 R48); out of session that address is ordinary
memory (01 R9, log 10). -/
def commandCycle (p : Port) (verb operand : Byte) (gone : Bool) (s : State) : State :=
  clientCycle p (.write (commandWord verb operand)) (s.commandAddress p) gone s

/-! ### The commands that are client cycles -/

/-- CLIENT_READ (01 R14). -/
def execClientRead (c : Client) (x : Addr) (s : State) : Host.Outcome State Fault Refusal :=
  .next (clientCycle c.port .read x c.gone s)

/-- CLIENT_WRITE (01 R20). -/
def execClientWrite (c : Client) (x : Addr) (d : Word) (s : State) : Host.Outcome State Fault Refusal :=
  .next (clientCycle c.port (.write d) x c.gone s)

/-- COMMAND_ADDRESS_READ (03 R50). -/
def execCommandAddressRead (c : Client) (s : State) : Host.Outcome State Fault Refusal :=
  .next (clientCycle c.port .read (s.commandAddress c.port) c.gone s)

/-- OPEN (03 R54). -/
def execOpenLease (c : Client) (operand : Byte) (s : State) : Host.Outcome State Fault Refusal :=
  .next (commandCycle c.port 0x01#8 operand c.gone s)

/-- CLOSE (03 R55). -/
def execCloseLease (c : Client) (operand : Byte) (s : State) : Host.Outcome State Fault Refusal :=
  .next (commandCycle c.port 0x02#8 operand c.gone s)

/-- BEGIN (03 R56). -/
def execBeginTxn (c : Client) (operand : Byte) (s : State) : Host.Outcome State Fault Refusal :=
  .next (commandCycle c.port 0x03#8 operand c.gone s)

/-- COMMIT (03 R57). -/
def execCommitTxn (c : Client) (operand : Byte) (s : State) : Host.Outcome State Fault Refusal :=
  .next (commandCycle c.port 0x04#8 operand c.gone s)

/-- ABORT (03 R58). -/
def execAbortTxn (c : Client) (operand : Byte) (s : State) : Host.Outcome State Fault Refusal :=
  .next (commandCycle c.port 0x05#8 operand c.gone s)

/-- STATUS (03 R59). -/
def execStatus (c : Client) (operand : Byte) (s : State) : Host.Outcome State Fault Refusal :=
  .next (commandCycle c.port 0x06#8 operand c.gone s)

/-- NEXT_EVENT (03 R60). -/
def execNextEvent (c : Client) (operand : Byte) (s : State) : Host.Outcome State Fault Refusal :=
  .next (commandCycle c.port 0x07#8 operand c.gone s)

/-- ALERT_MASK (03 R61). -/
def execAlertMask (c : Client) (operand : Byte) (s : State) : Host.Outcome State Fault Refusal :=
  .next (commandCycle c.port 0x08#8 operand c.gone s)

/-- END (03 R64). -/
def execEndSession (c : Client) (operand : Byte) (s : State) : Host.Outcome State Fault Refusal :=
  .next (commandCycle c.port 0x09#8 operand c.gone s)

/-- BADVERB (03 R53). -/
def execBadVerb (c : Client) (verb operand : Byte) (s : State) : Host.Outcome State Fault Refusal :=
  .next (commandCycle c.port verb operand c.gone s)

/-- The cycle record with the abandoned flag set (10 R183). -/
def abandonedPort (c : ClientPort) : ClientPort :=
  { c with cycle := c.cycle.map (fun y => { y with abandoned := true }) }

/-- CYCLE_ABANDONED: in HELD the abandoned flag is set and the access continues (10 R183). -/
def execCycleAbandoned (p : Port) (s : State) : Host.Outcome State Fault Refusal :=
  .next (if (s.ports.get p).state = .held then s.setPort p (abandonedPort (s.ports.get p)) else s)

/-- CYCLE_ENDING_EXIT: ENDING to IDLE, the record removed (10 R181). -/
def execCycleEndingExit (p : Port) (s : State) : Host.Outcome State Fault Refusal :=
  .next (
    if (s.ports.get p).state = .ending then s.setPort p { s.ports.get p with state := .idle, cycle := none }
    else s)

end Sys2Proof.Machine
end

