-- ==== Sys2Proof/Machine/Profile.lean ====
section
/-! DEFINITION. The profile block: its fields (11 R191, R192), its validation (07 R141 to R143) and the built-in
profiles (07 Table 7-3). -/

namespace Sys2Proof.Machine

/-- Word i of a candidate. -/
def candidateWord (ws : List Word) (i : Nat) : Word := ws.getD i 0#16

/-- An address held in two words, high word first (11 R191). -/
def candidateAddr (ws : List Word) (i : Nat) : Addr := addrOfWords (candidateWord ws i) (candidateWord ws (i + 1))

/-- The policy field of a window's flags word: bits 14 to 13 (11 R192). -/
def policyOf (c : BitVec 2) : Policy :=
  if c = 0#2 then .openAccess else if c = 1#2 then .guarded else if c = 2#2 then .readOnly else .hidden

/-- Window w, in words 32 + 6w to 37 + 6w (11 R192, Table 11-2). -/
def candidateWindow (ws : List Word) (w : Nat) : Window :=
  let at_ := 32 + 6 * w
  let flags := candidateWord ws at_
  let third := candidateWord ws (at_ + 3)
  { enable := flags.getLsbD 15
    base := flags.extractLsb' 0 4 ++ candidateWord ws (at_ + 1)
    limit := third.extractLsb' 0 4 ++ candidateWord ws (at_ + 2)
    policy := policyOf (flags.extractLsb' 13 2)
    transactional := flags.getLsbD 12
    ports := { a := flags.getLsbD 10, b := flags.getLsbD 11 }
    keyMask := flags.extractLsb' 4 4
    lifetime := candidateWord ws (at_ + 4)
    budget := candidateWord ws (at_ + 5)
    holdoff := third.extractLsb' 4 12 }

/-- Step s of the key whose record begins at a word (11 R192, Table 11-3). -/
def candidateStep (ws : List Word) (start s : Nat) : KeyStep :=
  { addr := candidateAddr ws (start + 1 + 4 * s)
    value := candidateWord ws (start + 3 + 4 * s)
    mask := candidateWord ws (start + 4 + 4 * s) }

/-- Key k, in words 128 + 36k to 163 + 36k (11 R192). -/
def candidateKey (ws : List Word) (k : Nat) : Key :=
  let start := 128 + 36 * k
  let first := candidateWord ws start
  { stepCount := first.extractLsb' 0 4
    steps := #v[candidateStep ws start 0, candidateStep ws start 1, candidateStep ws start 2,
      candidateStep ws start 3, candidateStep ws start 4, candidateStep ws start 5,
      candidateStep ws start 6, candidateStep ws start 7]
    txn := first.getLsbD 8
    events := first.getLsbD 9 }

/-- The background policy word: 0 OPEN, 1 READONLY; any other value fails check 11 (11 R191). -/
def backgroundOf (w : Word) : Background := if w = 0#16 then .openAccess else .readOnly

/-- The fields of a candidate (11 Table 11-1). -/
def parseProfile (ws : List Word) : Profile :=
  { background := backgroundOf (candidateWord ws 8)
    fill := candidateWord ws 9
    command := { a := candidateAddr ws 10, b := candidateAddr ws 12 }
    stepTime := candidateWord ws 14
    breakLimit := candidateWord ws 15
    lockoutTime := candidateWord ws 16
    sessionIdle := candidateWord ws 17
    journalBase := candidateAddr ws 18
    journalCapacity := candidateWord ws 20
    verify := (candidateWord ws 21).getLsbD 0
    readers := { a := (candidateWord ws 21).getLsbD 1, b := (candidateWord ws 21).getLsbD 2 }
    alertDefault := { a := (candidateWord ws 22).extractLsb' 0 8, b := (candidateWord ws 23).extractLsb' 0 8 }
    windows := #v[candidateWindow ws 0, candidateWindow ws 1, candidateWindow ws 2, candidateWindow ws 3,
      candidateWindow ws 4, candidateWindow ws 5, candidateWindow ws 6, candidateWindow ws 7,
      candidateWindow ws 8, candidateWindow ws 9, candidateWindow ws 10, candidateWindow ws 11,
      candidateWindow ws 12, candidateWindow ws 13, candidateWindow ws 14, candidateWindow ws 15]
    keys := #v[candidateKey ws 0, candidateKey ws 1, candidateKey ws 2, candidateKey ws 3] }

/-! ### Validation (07 Table 7-4) -/

/-- A rejection: the reason and the item reported, 0xFFFF for none (11 R197). -/
abbrev Rejection := RejectReason × Word

/-- The item "none". -/
def noItem : Word := 0xFFFF#16

/-- The profile CRC: words 0 to 271 with word 3 taken as 0 (11 R193 (a)). -/
def profileCrc (ws : List Word) : Word := crc16 (ws.set 3 0#16)

/-- A window range shares a word with the words low to high. -/
def windowMeets (w : Window) (low high : Nat) : Bool :=
  w.enable && decide (w.base.toNat ≤ high) && decide (low ≤ w.limit.toNat)

/-- Two enabled windows share a word address (check 6). -/
def windowsOverlap (v w : Window) : Bool := v.enable && windowMeets w v.base.toNat v.limit.toNat

/-- Check 5: the lowest enabled window with base greater than limit. -/
def checkRange (f : Profile) : Option Rejection :=
  (allWindows.find? (fun i => f.windows[i].enable && decide (f.windows[i].limit.toNat < f.windows[i].base.toNat))).map
    (fun i => (.windowRange, BitVec.ofNat 16 i.val))

/-- Check 6: the lower-numbered window of the first overlapping pair, the lower number ascending first (07 R142). -/
def checkOverlap (f : Profile) : Option Rejection :=
  (allWindows.find? (fun i =>
    allWindows.any (fun j => decide (i < j) && windowsOverlap f.windows[i] f.windows[j]))).map
    (fun i => (.windowOverlap, BitVec.ofNat 16 i.val))

/-- The last word of the journal area as computed, base plus 8 + 3J − 1 (07 R142). -/
def journalLast (f : Profile) : Nat := f.journalBase.toNat + 7 + 3 * f.journalCapacity.toNat

/-- The lowest enabled window that shares a word with the journal area (check 7). -/
def journalMeets (f : Profile) : Option (Fin 16) :=
  allWindows.find? (fun i => windowMeets f.windows[i] f.journalBase.toNat (journalLast f))

/-- Check 7: J is not 0 and the area runs past the top, meets an enabled window or the profile block; the item is the
lowest window shared, or none (07 R142; log 16). -/
def checkPlace (f : Profile) : Option Rejection :=
  if f.journalCapacity ≠ 0#16
      ∧ (Config.memoryWords ≤ journalLast f ∨ (journalMeets f).isSome = true ∨ f.journalBase.toNat < 512) then
    some (.journalPlace, match journalMeets f with
      | some i => BitVec.ofNat 16 i.val
      | none => noItem)
  else none

/-- Check 8: J is neither 0 nor 16 to 512. -/
def checkSize (f : Profile) : Option Rejection :=
  let j := f.journalCapacity.toNat
  if j = 0 ∨ (16 ≤ j ∧ j ≤ 512) then none else some (.journalSize, noItem)

/-- Check 9: the lowest key with step count 1 or greater than 8. -/
def checkKeys (f : Profile) : Option Rejection :=
  (allKeys.find? (fun k => decide (f.keys[k].stepCount.toNat = 1) || decide (8 < f.keys[k].stepCount.toNat))).map
    (fun k => (.keySteps, BitVec.ofNat 16 k.val))

/-- A port's command address lies in the journal area (check 10). -/
def commandInJournal (f : Profile) (p : Port) : Bool :=
  inJournalArea f.journalBase.toNat f.journalCapacity.toNat (f.command.get p).toNat

/-- Check 10: J is not 0 and CMD_A or CMD_B lies in the area; port A before port B. -/
def checkCommand (f : Profile) : Option Rejection :=
  if commandInJournal f .a then some (.cmdPlace, 0#16)
  else if commandInJournal f .b then some (.cmdPlace, 1#16)
  else none

/-- A word read as an unsigned number lies from 1 to a bound. -/
def inRange (w : Word) (high : Nat) : Bool := decide (1 ≤ w.toNat) && decide (w.toNat ≤ high)

/-- Check 11: T_step, F, lockout time, session idle, the 16 holdoffs, the background policy word (07 R143). -/
def checkTimers (f : Profile) (background : Word) : Option Rejection :=
  if inRange f.stepTime 255 && inRange f.breakLimit 15 && inRange f.lockoutTime 255 && inRange f.sessionIdle 255
      && allWindows.all (fun i => decide (f.windows[i].holdoff.toNat ≤ 255))
      && decide (background.toNat ≤ 1) then none
  else some (.timerRange, noItem)

/-- Checks 1 to 4: signature, version, length, CRC. -/
def checkHeader (ws : List Word) : Option Rejection :=
  if candidateWord ws 0 ≠ 0x5744#16 then some (.signature, noItem)
  else if candidateWord ws 1 ≠ 1#16 then some (.version, noItem)
  else if candidateWord ws 2 ≠ 272#16 then some (.length, noItem)
  else if profileCrc ws ≠ candidateWord ws 3 then some (.crc, noItem)
  else none

/-- Validation: the first check of Table 7-4 that fails, or none for a valid candidate (07 R141). -/
def validateProfile (ws : List Word) : Option Rejection :=
  let f := parseProfile ws
  (checkHeader ws).or ((checkRange f).or ((checkOverlap f).or ((checkPlace f).or ((checkSize f).or
    ((checkKeys f).or ((checkCommand f).or (checkTimers f (candidateWord ws 8))))))))

/-! ### Built-in profiles (07 Table 7-3) -/

/-- What the two built-in profiles share: no key, no journal area, both ports readers, all classes alerting. -/
def builtInProfile (b : Background) (ws : Vector Window 16) : Profile :=
  { background := b, fill := 0xFFFF#16, command := { a := 0#20, b := 0#20 },
    stepTime := 255#16, breakLimit := 15#16, lockoutTime := 255#16, sessionIdle := 255#16,
    journalBase := 0#20, journalCapacity := 0#16, verify := false,
    readers := { a := true, b := true }, alertDefault := { a := 0xFF#8, b := 0xFF#8 },
    windows := ws, keys := Vector.replicate 4 disabledKey }

/-- The bypass profile: background OPEN, all windows disabled. -/
def bypassProfile : Profile := builtInProfile .openAccess (Vector.replicate 16 emptyWindow)

/-- Window 0 of the fallback profile: words 0 to 511, OPEN, both ports, not transactional. -/
def fallbackWindow : Window :=
  { emptyWindow with enable := true, base := 0#20, limit := 511#20, ports := { a := true, b := true } }

/-- The fallback profile: background READONLY, window 0 over the profile block. -/
def fallbackProfile : Profile :=
  builtInProfile .readOnly ((Vector.replicate 16 emptyWindow).set 0 fallbackWindow)

end Sys2Proof.Machine
end

