-- ==== Sys2Proof/Machine/Startup.lean ====
section
/-! DEFINITION. Start-up (chapter 7): reset, initialisation, the strap, the profile read and the rise of READY. -/

namespace Sys2Proof.Machine

/-! ### Reset and loss of supply (07 R135) -/

/-- Every block at its start-up value; the pins, the guarded memory and the waiting commands are kept (07 R136). -/
def initialise (s : State) : State :=
  { State.reset with
    supply := s.supply, resetn := s.resetn, pwrgood := s.pwrgood, pbyp := s.pbyp,
    memory := s.memory, pending := s.pending }

/-- A write under way on the memory port ends, leaving a word in memory. -/
def finishWrite (left : Word → Word → Word) (s : State) : State :=
  match s.inFlight with
  | some { kind := .write d, addr := x, .. } => s.writeWord x (left (s.readWord x) d)
  | _ => s

/-- A client port as activity ends: a held cycle is completed toward its client, a read with 0xFFFF (07 R135,
10 R184). The early-access count is lost with the rest of the state. -/
def stoppedPort (c : ClientPort) : ClientPort :=
  let ended : ClientPort :=
    match c.state, c.cycle with
    | .held, some y => completedPort (fixedAnswer y.kind Config.fillBeforeReady) c
    | _, _ => c
  { ended with early := 0#16 }

/-- The activity of every block ends in one event; what the blocks held is lost (07 R135; log 13). -/
def endActivity (s : State) : State :=
  { (initialise s) with ports := { a := stoppedPort s.ports.a, b := stoppedPort s.ports.b } }

/-- RESETN_FALL: a write under way is completed in memory, then activity ends (07 R135). -/
def execResetnFall (answer : MemoryAnswer) (s : State) : Host.Outcome State Fault Refusal :=
  .next (
    if s.supply ∧ s.resetn then
      { endActivity (finishWrite (fun _ d => wordLeft answer d) s) with resetn := false }
    else { s with resetn := false })

/-- SUPPLY_LOSS: a word being written is left old or new, then activity ends (07 R135). -/
def execSupplyLoss (landed : Bool) (s : State) : Host.Outcome State Fault Refusal :=
  .next (
    if s.supply then
      { endActivity (finishWrite (fun old d => if landed then d else old) s) with supply := false }
    else s)

/-! ### The rise of READY (07 R155) -/

/-- EARLY_ACCESS for a port whose count is not 0 (01 R10). -/
def reportEarly (p : Port) (s : State) : State :=
  if (s.ports.get p).early = 0#16 then s
  else raise .earlyAccess (.port p) none 0#16 (s.ports.get p).early s

/-- PWRGOOD low at the rise enters FENCED with detail AT_READY (08 R166). -/
def fenceAtReady (s : State) : State :=
  if s.pwrgood then s else raise .fenceEntered .part none 0#16 1#16 { s with fence := .fenced }

/-- READY rises: STARTED, EARLY_ACCESS for A then B, and the fence when PWRGOOD is low (07 R155). -/
def readyRise (s : State) : State :=
  let started := raise .started .part none (startedDetail s.profileStatus) (recoveryCode s.recovery.result)
    { s with stage := .operating }
  fenceAtReady (reportEarly .b (reportEarly .a started))

/-! ### The strap and the wait (07 R138, R139) -/

/-- A profile is installed in every block (07 R144, R145). -/
def installProfile (f : Profile) (st : ProfileStatus) (s : State) : State :=
  { s with profile := some f, profileStatus := st, alertMask := f.alertDefault }

/-- PBYP high: the bypass profile, BYPASS, and the rise of READY (07 R138). -/
def startBypass (s : State) : State :=
  readyRise (raise .bypass .part none 0#16 0#16 (installProfile bypassProfile .bypass s))

/-- The profile read begins: word 0 of bank 0 (07 R140). -/
def beginProfileRead (s : State) : State :=
  requestEngineRead 0#20 { s with stage := .profileRead, candidate := [] }

/-- Start-up from a part whose pins stand as they do: initialisation, the strap sample, and what follows it
(07 R136, R138, R139). -/
def startUp (s : State) : State :=
  let t := initialise s
  if t.pbyp then startBypass t
  else if t.pwrgood then beginProfileRead t
  else { t with stage := .waitPwrgood }

/-- POWER_UP: the supply reaches its range; with RESETN high start-up begins, with RESETN low the part is held in
reset (07 R135). Taken only while the part is stopped (log 17). -/
def execPowerUp (pbyp pwrgood resetn : Bool) (s : State) : Host.Outcome State Fault Refusal :=
  .next (
    if s.stage = .stopped then
      let t := { s with supply := true, resetn := resetn, pwrgood := pwrgood, pbyp := pbyp }
      if resetn then startUp t else initialise t
    else s)

/-- RESETN_RISE: the same start-up sequence (07 R135). Without supply only the level changes. -/
def execResetnRise (pbyp pwrgood : Bool) (s : State) : Host.Outcome State Fault Refusal :=
  .next (
    if s.supply ∧ s.resetn = false then
      startUp { s with resetn := true, pwrgood := pwrgood, pbyp := pbyp }
    else { s with resetn := true })

/-- PWRGOOD_WAIT_END: the PL takes PWRGOOD high, the wait ends and the profile read begins (07 R139). The command
stands for PWRGOOD found high, so with the level held here low it brings the level with it (DESIGN CHOICE, log 24). -/
def execPwrgoodWaitEnd (s : State) : Host.Outcome State Fault Refusal :=
  .next (if s.stage = .waitPwrgood then beginProfileRead { s with pwrgood := true } else s)

/-! ### The profile read (07 R140 to R145) -/

/-- Recovery begins: REPLAY_LOAD, and header word 0 is requested (07 R146). -/
def beginRecovery (s : State) : State :=
  requestEngineRead (s.journalAddr 0)
    (setEngineState .replayLoad { s with stage := .recovery, recovery := { Recovery.fresh with phase := .header } })

/-- The candidate is validated and installed, or rejected, discarded and the fallback installed (07 R144, R145). -/
def concludeProfile (s : State) : State :=
  match validateProfile s.candidate with
  | none =>
    let t := installProfile (parseProfile s.candidate) .valid s
    if t.journalEntries = 0 then readyRise t else beginRecovery t
  | some (reason, item) =>
    readyRise (raise .profileRejected .part none ((rejectCode reason).setWidth 16) item
      (installProfile fallbackProfile (.rejected reason) { s with candidate := [] }))

/-- The engine place has a read in flight (10 R185). -/
def State.engineRead (s : State) : Option Addr :=
  match s.inFlight with
  | some { holder := .engine, kind := .read, addr := x } => some x
  | _ => none

/-- A profile word joins the candidate; after word 271 the candidate is validated (07 R140). -/
def takeProfileWord (w : Word) (s : State) : State :=
  let t := { s with candidate := s.candidate ++ [w], inFlight := none }
  if t.candidate.length < Config.profileLength then
    requestEngineRead (BitVec.ofNat 20 t.candidate.length) t
  else concludeProfile t

/-- PROFILE_WORD_READ (07 R140). -/
def execProfileWordRead (answer : MemoryAnswer) (s : State) : Host.Outcome State Fault Refusal :=
  .next (match s.stage, s.engineRead with
    | .profileRead, some x => takeProfileWord (wordReturned answer s.memory x) s
    | _, _ => s)

end Sys2Proof.Machine
end

