-- ==== Sys2Proof/Machine/Recovery.lean ====
section
/-! DEFINITION. Journal recovery (chapter 7, sections 7.5 and 7.6): the header, the checking and loading passes,
formatting, clearing, replay and the replay fault. -/

namespace Sys2Proof.Machine

/-! ### Numbers and ends -/

/-- A header word as recovery read it. -/
def State.headerRead (s : State) (h : Nat) : Word := wordAt s.recovery.header h

/-- The state word was neither LOGGED nor CLEAR (07 R146). -/
def State.unformatted (s : State) : Bool :=
  decide (s.headerRead 0 ≠ Config.loggedWord) && decide (s.headerRead 0 ≠ Config.clearWord)

/-- The engine record with the numbers that the header found gives (07 R153): next 1 and last cleared 0 for an
UNFORMATTED header, otherwise header word 1 plus one and header word 1. -/
def recoveredEngine (s : State) : Engine :=
  if s.unformatted then { s.engine with nextNumber := 1#16, lastCleared := 0#16 }
  else { s.engine with nextNumber := s.headerRead 1 + 1#16, lastCleared := s.headerRead 1 }

/-- Recovery ends with a result: the numbers are set and the engine is left IDLE or FAULTED (07 R147 to R153). -/
def endRecovery (e : EngineState) (r : RecoveryResult) (s : State) : State :=
  endEngine e
    { s with engine := recoveredEngine s, recovery := { s.recovery with phase := .none, result := r } }

/-- The recovery pass replaced. -/
def setPhase (ph : RecoveryPhase) (s : State) : State := { s with recovery := { s.recovery with phase := ph } }

/-! ### A damaged header (07 R149) -/

/-- JOURNAL_DAMAGED with the reason (0 COUNT, 1 HEADER_CRC, 2 ENTRY_CRC) and header word 1; the clearing write
begins. -/
def findDamaged (reason : Word) (s : State) : State :=
  placeWord .damagedClear
    (setEngineState .clearing
      (raise .journalDamaged .part none reason (s.headerRead 1) (setPhase .none s)))

/-! ### The header (07 R146 to R149) -/

/-- The first slot word of a pass is requested. -/
def beginPass (ph : RecoveryPhase) (s : State) : State := requestEngineRead (s.journalAddr 8) (setPhase ph s)

/-- The header CRC recomputed from the words read (07 R149 (b)). -/
def State.headerCrcGood (s : State) : Bool :=
  decide (headerCrc (s.headerRead 1) (s.headerRead 2) (s.headerRead 3) = s.headerRead 4)

/-- The entry count of the header read. -/
def State.loggedCount (s : State) : Nat := (s.headerRead 2).toNat

/-- Checks (a) and (b) of a LOGGED header; then the checking pass begins (07 R149). -/
def checkLogged (s : State) : State :=
  if s.loggedCount = 0 ∨ s.journalEntries < s.loggedCount then findDamaged 0#16 s
  else if !s.headerCrcGood then findDamaged 1#16 s
  else beginPass .check s

/-- The header is classified by its state word (07 R146): formatted, left alone, or checked. -/
def classifyHeader (s : State) : State :=
  if s.headerRead 0 = Config.loggedWord then checkLogged s
  else if s.headerRead 0 = Config.clearWord then readyRise (endRecovery .idle .clear s)
  else placeWord (.format 1) (setEngineState .clearing (setPhase .none s))

/-- A header word has been read; after word 4 the header is classified. -/
def takeHeaderWord (w : Word) (s : State) : State :=
  let t := { s with recovery := { s.recovery with header := s.recovery.header ++ [w] }, inFlight := none }
  if t.recovery.header.length < 5 then requestEngineRead (t.journalAddr t.recovery.header.length) t
  else classifyHeader t

/-- JOURNAL_HEADER_READ: a recovery read returns what the memory holds (07 R146, R150; log 5). -/
def execJournalHeaderRead (s : State) : Host.Outcome State Fault Refusal :=
  .next (match s.recovery.phase, s.engineRead with
    | .header, some x => takeHeaderWord (s.readWord x) s
    | _, _ => s)

/-! ### The checking pass (07 R149 (c)) -/

/-- The entry of slot i, from the words of a pass. -/
def slotEntry (ws : List Word) (i : Nat) : Entry :=
  { owner := .recovery
    addr := addrOfWords (wordAt ws (3 * i)) (wordAt ws (3 * i + 1))
    data := wordAt ws (3 * i + 2)
    position := i }

/-- Slot i is sound: its marker, its address outside the journal area and unlike that of every lower slot. -/
def State.slotGood (s : State) (ws : List Word) (i : Nat) : Bool :=
  decide ((wordAt ws (3 * i)).extractLsb' 4 12 = 0xE00#12)
    && !s.inJournal (slotEntry ws i).addr
    && (List.range i).all (fun k => decide ((slotEntry ws k).addr ≠ (slotEntry ws i).addr))

/-- Check (c): the CRC of the 3n words, and every slot. -/
def State.entriesGood (s : State) (ws : List Word) : Bool :=
  decide (crc16 ws = s.headerRead 3) && (List.range s.loggedCount).all (s.slotGood ws)

/-- All checks have passed: the loading pass begins, with the RECOVERY entries as current transaction (07 R150). -/
def beginLoad (s : State) : State :=
  beginPass .load (s.setEngine { s.engine with current := some .recovery })

/-- A slot word of the checking pass; after the last the entries are checked. -/
def takeCheckWord (w : Word) (s : State) : State :=
  let t := { s with recovery := { s.recovery with slots := s.recovery.slots ++ [w] }, inFlight := none }
  if t.recovery.slots.length < 3 * t.loggedCount then
    requestEngineRead (t.journalAddr (8 + t.recovery.slots.length)) t
  else if t.entriesGood t.recovery.slots then beginLoad t
  else findDamaged 2#16 t

/-- JOURNAL_SLOT_CHECK_READ (07 R149). -/
def execJournalSlotCheckRead (s : State) : Host.Outcome State Fault Refusal :=
  .next (match s.recovery.phase, s.engineRead with
    | .check, some x => takeCheckWord (s.readWord x) s
    | _, _ => s)

/-! ### The loading pass (07 R150) -/

/-- When the third word of a slot has been read, its entry joins the stage buffer. -/
def joinLoaded (s : State) : State :=
  let n := s.recovery.loaded.length
  if n % 3 = 0 then s.setStage (s.sb ++ [slotEntry s.recovery.loaded (n / 3 - 1)]) else s

/-- Applying begins with the home write of position 0 (07 R150). -/
def beginReplay (s : State) : State := placeWord (.home 0) (setEngineState .applying (setPhase .none s))

/-- A slot word of the loading pass; after the last slot, applying begins. -/
def takeLoadWord (w : Word) (s : State) : State :=
  let t := joinLoaded
    { s with recovery := { s.recovery with loaded := s.recovery.loaded ++ [w] }, inFlight := none }
  if t.recovery.loaded.length < 3 * t.loggedCount then
    requestEngineRead (t.journalAddr (8 + t.recovery.loaded.length)) t
  else beginReplay t

/-- REPLAY_LOAD_READ (07 R150). -/
def execReplayLoadRead (s : State) : Host.Outcome State Fault Refusal :=
  .next (match s.recovery.phase, s.engineRead with
    | .load, some x => takeLoadWord (s.readWord x) s
    | _, _ => s)

/-! ### Ends of recovery (07 R147, R149, R151, R152) -/

/-- Formatting has completed: JOURNAL_FORMATTED with the state word found (07 R147). -/
def formatDone (s : State) : State :=
  readyRise (raise .journalFormatted .part none 0#16 (s.headerRead 0) (endRecovery .idle .formatted s))

/-- The clearing write of a damaged header has completed (07 R149). -/
def damagedDone (s : State) : State := readyRise (endRecovery .idle .damaged s)

/-- The CLEAR write after replay has completed: the entries leave, REPLAYED (07 R151). -/
def replayDone (s : State) : State :=
  let t := endRecovery .idle .replayed (s.setStage (s.sb.filter (fun e => decide (e.owner ≠ .recovery))))
  readyRise (raise .replayed .part none (s.headerRead 1) (s.headerRead 2) t)

/-- A recovery write has failed: FAULTED, REPLAY_FAULT with the phase (0 FORMAT, 1 DAMAGED, 2 APPLYING, 3 CLEARING)
and the failed address; RECOVERY entries stay (07 R152). -/
def replayFault (phase : BitVec 4) (x : Addr) (s : State) : State :=
  readyRise (raise .replayFault .part none (phaseAndHigh phase x) (addrLow x) (endRecovery .faulted .replayFault s))

end Sys2Proof.Machine
end

