-- ==== Sys2Proof/Machine/EngineAccess.lean ====
section
/-! DEFINITION. The completions of the journal engine's writes and read-backs (06 R114), in operation and in
recovery. -/

namespace Sys2Proof.Machine

/-- A write of the engine has completed in the sense of 06 R114: the next word of its course, or its end. -/
def wordDone (role : WordRole) (s : State) : State :=
  let n := s.engineCount
  match role with
  | .slot i j =>
    if j < 2 then placeWord (.slot i (j + 1)) s
    else if i + 1 < n then placeWord (.slot (i + 1) 0) s
    else placeWord (.header 1) s
  | .header h => if h < 4 then placeWord (.header (h + 1)) s else placeWord .logged s
  | .logged => commitPoint s
  | .home k => if k + 1 < n then placeWord (.home (k + 1)) s else beginClearing s
  | .clear =>
    match s.engine.current with
    | some (.port p) => commitDone p s
    | some .recovery => replayDone s
    | none => s
  | .restore => endLogging s
  | .format h => if h < 7 then placeWord (.format (h + 1)) s else placeWord .formatClear s
  | .formatClear => formatDone s
  | .damagedClear => damagedDone s

/-- A write of the engine has failed on its third attempt (06 R127 to R129, 07 R152). -/
def wordFailed (role : WordRole) (x : Addr) (s : State) : State :=
  match role with
  | .slot _ _ => beginRestoring s
  | .header _ => beginRestoring s
  | .logged => beginRestoring s
  | .home _ =>
    match s.engine.current with
    | some (.port p) => enterFaulted 1#4 x (endTxn p .applyFault s)
    | some .recovery => replayFault 2#4 x s
    | none => s
  | .clear =>
    match s.engine.current with
    | some (.port p) => enterFaulted 2#4 x (endTxn p .committed s)
    | some .recovery => replayFault 3#4 x s
    | none => s
  | .restore => enterFaulted 0#4 x (endCurrent (loggingOutcome s.engine.stop) s)
  | .format _ => replayFault 0#4 x s
  | .formatClear => replayFault 0#4 x s
  | .damagedClear => replayFault 1#4 x s

/-- A write of the word in hand has completed on the memory port: a stop taken meanwhile is settled; with VERIFY a
read-back of the same address is requested, without it the write is complete (06 R114, R124). -/
def afterWrite (w : WordInHand) (s : State) : State :=
  if s.stopping then settleStop s
  else if s.active.verify then requestEngineRead w.addr s
  else wordDone w.role s

/-- A further attempt: the attempt number rises by one and the word is written again (06 R114 (b)). -/
def retryWord (w : WordInHand) (s : State) : State :=
  (s.setEngine { s.engine with word := some { w with attempt := w.attempt + 1 } }).setEngineRequest
    (some { kind := .write w.value, addr := w.addr })

/-- A read-back of the word in hand has completed: a stop taken meanwhile is settled; otherwise the word read is
compared with the value written (06 R114, R124; log 18). -/
def afterReadBack (w : WordInHand) (read : Word) (s : State) : State :=
  if s.stopping then settleStop s
  else if read = w.value then wordDone w.role s
  else if w.attempt < 3 then retryWord w s
  else wordFailed w.role w.addr s

/-- The engine's write in flight, with the word in hand it writes. -/
def State.engineWrite (s : State) : Option (WordInHand × Addr × Word) :=
  match s.inFlight, s.engine.word with
  | some { holder := .engine, kind := .write d, addr := x }, some w => some (w, x, d)
  | _, _ => none

/-- ENGINE_WRITE_COMPLETE: the word is in memory as the device leaves it; header word 1's first attempt advances the
next number before any read-back (06 R114, R119). -/
def execEngineWriteComplete (answer : MemoryAnswer) (s : State) : Host.Outcome State Fault Refusal :=
  .next (match s.engineWrite with
    | some (w, x, d) => afterWrite w (advanceNumber w ((s.writeWord x (wordLeft answer d)).setInFlight none))
    | none => s)

/-- The engine's read-back in flight, with the word in hand it verifies. -/
def State.engineReadBack (s : State) : Option (WordInHand × Addr) :=
  match s.engineRead, s.engine.word with
  | some x, some w => some (w, x)
  | _, _ => none

/-- ENGINE_READ_BACK_COMPLETE (06 R114). -/
def execEngineReadBackComplete (answer : MemoryAnswer) (s : State) : Host.Outcome State Fault Refusal :=
  .next (match s.engineReadBack with
    | some (w, x) => afterReadBack w (wordReturned answer s.memory x) (s.setInFlight none)
    | none => s)

end Sys2Proof.Machine
end

