-- ==== Sys2Proof/Machine/Fences.lean ====
section
/-! DEFINITION. The power fence (chapter 8): its entry by a fall of PWRGOOD, its exit, and changes of PWRGOOD before
READY. -/

namespace Sys2Proof.Machine

/-- The fence clears the progress of a WATCHING recognizer and stops its step timer; no break is counted
(02 R41 (a)). -/
def fenceSqr (p : Port) (s : State) : State :=
  if (s.sqr.get p).state = .watching then s.setSqr p (clearedSqr (s.sqr.get p)) else s

/-- A stop with cause FENCE reaches an engine whose current transaction is in LOGGING (08 R163). -/
def fenceEngine (s : State) : State := if s.engine.state = .logging then stopEngine .fence s else s

/-- The entry into FENCED, in the order of 08 R158: state, FENCE_ENTERED FALL, sessions of A and B, recognizers, a
QUEUED transaction, the engine. -/
def enterFence (s : State) : State :=
  let entered := raise .fenceEntered .part none 0#16 0#16 { s with fence := .fenced }
  let closed := endSession .b .fence (endSession .a .fence entered)
  fenceEngine (endQueued .fenced (fenceSqr .b (fenceSqr .a closed)))

/-- PWRGOOD_FALL: with READY high and the fence OPEN the fence is entered (08 R158); before READY only the level
changes (08 R157). -/
def execPwrgoodFall (s : State) : Host.Outcome State Fault Refusal :=
  .next (
    if s.ready ∧ s.fence = .opened then enterFence { s with pwrgood := false } else { s with pwrgood := false })

/-- The exit from FENCED: FENCE_LEFT with the absorbed-write count, then OPEN and 0 (08 R164). -/
def leaveFence (s : State) : State :=
  { raise .fenceLeft .part none 0#16 s.absorbed s with fence := .opened, absorbed := 0#16 }

/-- PWRGOOD_RISE: while FENCED the fence is left (08 R164); otherwise only the level changes (08 R157). -/
def execPwrgoodRise (s : State) : Host.Outcome State Fault Refusal :=
  .next (
    if s.fence = .fenced then leaveFence { s with pwrgood := true } else { s with pwrgood := true })

/-- PWRGOOD_CHANGE_IN_START_UP: before READY the FM does not act on the change; the level it leaves decides at READY
(08 R157). After READY a change is PWRGOOD_FALL or PWRGOOD_RISE (log 9). -/
def execPwrgoodChangeInStartUp (level : Bool) (s : State) : Host.Outcome State Fault Refusal :=
  .next (if s.ready then s else { s with pwrgood := level })

end Sys2Proof.Machine
end

