-- ==== Sys2Proof/Machine/MemoryPort.lean ====
section
/-! DEFINITION. The memory port and its arbiter (chapter 10): the grant, and the completions of forwarded
accesses. -/

namespace Sys2Proof.Machine

/-- A requester's waiting request (10 R186). -/
def Waiting.of (w : Waiting) : Requester → Option Request
  | .client p => w.client.get p
  | .engine => w.engine

/-- The rotation that begins after the last granted requester (10 R187). -/
def rotation : Requester → List Requester
  | .client .a => [.client .b, .engine, .client .a]
  | .client .b => [.engine, .client .a, .client .b]
  | .engine => [.client .a, .client .b, .engine]

/-- The requester granted next, with its request: the first of the rotation that waits (10 R187). -/
def State.nextGrant (s : State) : Option (Requester × Request) :=
  (rotation s.lastGranted).findSome? (fun r => (s.waiting.of r).map (fun q => (r, q)))

/-- A request leaves the waiting set (10 R186). -/
def withdraw (r : Requester) (s : State) : State :=
  match r with
  | .client p => s.setClientRequest p none
  | .engine => s.setEngineRequest none

/-- The access of a granted request begins (10 R185). -/
def beginAccess (r : Requester) (q : Request) (s : State) : State :=
  s.setInFlight (some { holder := r, kind := q.kind, addr := q.addr })

/-- The word in hand with its write granted (06 R124). -/
def grantedWord (kind : AccessKind) (w : WordInHand) : WordInHand :=
  match kind with
  | .write _ => { w with granted := true }
  | .read => w

/-- The engine place uses its grant: a write of the word in hand is marked granted (10 R188 (b)). -/
def useEngineGrant (q : Request) (s : State) : State :=
  beginAccess .engine q (s.setEngine { s.engine with word := s.engine.word.map (grantedWord q.kind) })

/-- A client port uses its grant: a read repeats its lookup, a write is decided again from step 6a; when that settles
the cycle the grant is used for no access (01 R15, R21; 10 R188 (a)). -/
def useClientGrant (p : Port) (q : Request) (s : State) : State :=
  match q.kind with
  | .read =>
    match s.lookup p q.addr with
    | some v => completeCycle p (some v) s
    | none => beginAccess (.client p) q s
  | .write d =>
    match s.writeStep6 p q.addr with
    | .forward => beginAccess (.client p) q s
    | course => applyWrite p q.addr d course s

/-- A requester uses its grant. -/
def useGrant (r : Requester) (q : Request) (s : State) : State :=
  match r with
  | .client p => useClientGrant p q s
  | .engine => useEngineGrant q s

/-- The request leaves the set and its requester becomes the last granted (10 R187). -/
def grantTo (r : Requester) (s : State) : State := { withdraw r s with lastGranted := r }

/-- MEMORY_PORT_GRANT: with no access in flight and a request waiting, the next of the rotation is granted
(10 R187). How soon the grant follows a request at a free port is the sender's order (DESIGN CHOICE, log 25). -/
def execMemoryPortGrant (s : State) : Host.Outcome State Fault Refusal :=
  .next (match s.inFlight, s.nextGrant with
    | none, some (r, q) => useGrant r q (grantTo r s)
    | _, _ => s)

/-- FORWARDED_READ_COMPLETE: the word answers the cycle (10 R185). -/
def execForwardedReadComplete (answer : MemoryAnswer) (s : State) : Host.Outcome State Fault Refusal :=
  .next (match s.inFlight with
    | some { holder := .client p, kind := .read, addr := x } =>
      completeCycle p (some (wordReturned answer s.memory x)) (s.setInFlight none)
    | _ => s)

/-- An accepted write spends a unit of the port's lease on the window it falls in (01 R22, 04 R72). -/
def spendAt (p : Port) (x : Addr) (s : State) : State :=
  match s.windowOf x with
  | some w => spendUnit p w s
  | none => s

/-- FORWARDED_WRITE_COMPLETE: the word is in memory, the lease unit is spent, the write is passed to the recognizer,
and the cycle ends (01 R20, R22, R23; 10 Table 10-2). -/
def execForwardedWriteComplete (answer : MemoryAnswer) (s : State) : Host.Outcome State Fault Refusal :=
  .next (match s.inFlight with
    | some { holder := .client p, kind := .write d, addr := x } =>
      settleWrite p x d (spendAt p x ((s.writeWord x (wordLeft answer d)).setInFlight none))
    | _ => s)

end Sys2Proof.Machine
end

