-- ==== Sys2Proof/Machine/Dispatch.lean ====
section
/-! DEFINITION. One arm per command: the meaning of each row of spec/opcode_table.json. -/

namespace Sys2Proof.Machine

def exec (i : Instr) (s : State) : Host.Outcome State Fault Refusal :=
  match i with
  | .powerUp pbyp pwrgood resetn => Sys2Proof.Machine.execPowerUp pbyp pwrgood resetn s
  | .resetnRise pbyp pwrgood => Sys2Proof.Machine.execResetnRise pbyp pwrgood s
  | .resetnFall answer => Sys2Proof.Machine.execResetnFall answer s
  | .supplyLoss landed => Sys2Proof.Machine.execSupplyLoss landed s
  | .pwrgoodWaitEnd => Sys2Proof.Machine.execPwrgoodWaitEnd s
  | .profileWordRead answer => Sys2Proof.Machine.execProfileWordRead answer s
  | .journalHeaderRead => Sys2Proof.Machine.execJournalHeaderRead s
  | .journalSlotCheckRead => Sys2Proof.Machine.execJournalSlotCheckRead s
  | .replayLoadRead => Sys2Proof.Machine.execReplayLoadRead s
  | .memoryPortGrant => Sys2Proof.Machine.execMemoryPortGrant s
  | .forwardedReadComplete answer => Sys2Proof.Machine.execForwardedReadComplete answer s
  | .forwardedWriteComplete answer => Sys2Proof.Machine.execForwardedWriteComplete answer s
  | .engineWriteComplete answer => Sys2Proof.Machine.execEngineWriteComplete answer s
  | .engineReadBackComplete answer => Sys2Proof.Machine.execEngineReadBackComplete answer s
  | .engineTake => Sys2Proof.Machine.execEngineTake s
  | .clientRead c x => Sys2Proof.Machine.execClientRead c x s
  | .clientWrite c x d => Sys2Proof.Machine.execClientWrite c x d s
  | .commandAddressRead c => Sys2Proof.Machine.execCommandAddressRead c s
  | .openLease c operand => Sys2Proof.Machine.execOpenLease c operand s
  | .closeLease c operand => Sys2Proof.Machine.execCloseLease c operand s
  | .beginTxn c operand => Sys2Proof.Machine.execBeginTxn c operand s
  | .commitTxn c operand => Sys2Proof.Machine.execCommitTxn c operand s
  | .abortTxn c operand => Sys2Proof.Machine.execAbortTxn c operand s
  | .status c operand => Sys2Proof.Machine.execStatus c operand s
  | .nextEvent c operand => Sys2Proof.Machine.execNextEvent c operand s
  | .alertMask c operand => Sys2Proof.Machine.execAlertMask c operand s
  | .endSession c operand => Sys2Proof.Machine.execEndSession c operand s
  | .badVerb c verb operand => Sys2Proof.Machine.execBadVerb c verb operand s
  | .stepTimerExpiry p => Sys2Proof.Machine.execStepTimerExpiry p s
  | .lockoutTimerExpiry p => Sys2Proof.Machine.execLockoutTimerExpiry p s
  | .idleTimerExpiry p => Sys2Proof.Machine.execIdleTimerExpiry p s
  | .lifetimeTimerExpiry w => Sys2Proof.Machine.execLifetimeTimerExpiry w s
  | .holdoffTimerExpiry w => Sys2Proof.Machine.execHoldoffTimerExpiry w s
  | .pwrgoodFall => Sys2Proof.Machine.execPwrgoodFall s
  | .pwrgoodRise => Sys2Proof.Machine.execPwrgoodRise s
  | .cycleAbandoned p => Sys2Proof.Machine.execCycleAbandoned p s
  | .cycleEndingExit p => Sys2Proof.Machine.execCycleEndingExit p s
  | .eventArrival => Sys2Proof.Machine.execEventArrival s
  | .pwrgoodChangeInStartUp level => Sys2Proof.Machine.execPwrgoodChangeInStartUp level s

end Sys2Proof.Machine
end

