-- ==== Sys2Proof/Machine/Step.lean ====
section
/-! DEFINITION. One step: the command at the front of the queue, or, on an empty queue, a millisecond. -/

namespace Sys2Proof.Machine

/-- The EQ's time base counts one millisecond (09 R178). It runs from the initialisation event on; no time passes
while a raised event waits, since a record's time is the moment its event was raised (DESIGN CHOICE, log 7). -/
def tick (s : State) : State :=
  if s.stage ≠ .stopped ∧ s.raised = [] then { s with timeBase := s.timeBase + 1#16 } else s

/-- The command at the front of the queue is taken and performed on the state with the queue's rest; on an empty
queue a millisecond passes. -/
def step (s : State) : Host.Outcome State Fault Refusal :=
  match s.pending with
  | [] => .next (tick s)
  | c :: rest => exec c { s with pending := rest }

/-- The command that a word of the table spells, put at the front of the queue; no row has bits, so none is. -/
def State.withFetchWord (s : State) (nbits w : Nat) : State :=
  match decodeTableWord nbits w with
  | some c => { s with pending := c :: s.pending }
  | none => s

end Sys2Proof.Machine
end

