-- ==== Sys2Proof/Safety.lean ====
section
/-! DEFINITION. The laws of the part: what every state that a run reaches satisfies, one definition for each law the
spec states or implies, and the sameness of state outside named fields that the frames use. -/

namespace Sys2Proof.Machine

/-- A condition of both ports. -/
def onBoth (P : Port → Prop) : Prop := P .a ∧ P .b

/-! ### Supply, reset, READY and the fence -/

/-- The blocks are stopped exactly while the supply is out of range or RESETN is low (07 R135). -/
def ResetLaw (s : State) : Prop := s.stage = .stopped ↔ ¬ (s.supply = true ∧ s.resetn = true)

/-- The part is FENCED exactly while READY and PWRGOOD low, and the absorbed-write count outside the fence is 0
(08 R157, R158, R164, R166). -/
def FenceLaw (s : State) : Prop :=
  (s.fence = .fenced ↔ s.stage = .operating ∧ s.pwrgood = false) ∧ (s.fence = .opened → s.absorbed = 0#16)

/-! ### Memory and the event queue -/

/-- The guarded memory keeps its canonical form (log 3). -/
def MemoryLaw (s : State) : Prop := Memory.wf s.memory = true

/-- An audience that is not empty. -/
def PerPort.some (v : PerPort Bool) : Bool := v.a || v.b

/-- The event-queue law (09 R171, R172): an event that waits for the EQ has a non-empty audience and is no marker;
at most 32 records, at most 31 of them ordinary, each with a non-empty audience, and a marker is the newest. -/
def EventLaw (s : State) : Prop :=
  (∀ n ∈ s.raised, n.audience.some = true ∧ n.name ≠ .overflow) ∧
  s.records.length ≤ Config.recordCapacity ∧
  s.records.countP (fun r => !isMarker r) + 1 ≤ Config.recordCapacity ∧
  (∀ r ∈ s.records, r.notice.audience.some = true) ∧
  (∀ r ∈ s.records.dropLast, isMarker r = false)

/-- A port of one audience is a port of another. -/
def audienceWithin (v w : PerPort Bool) : Prop := (v.a = true → w.a = true) ∧ (v.b = true → w.b = true)

/-- The reader law (09 R171): an audience lies within the reader set, and no event is held before a profile is
installed (07 R136, R156). -/
def ReaderLaw (s : State) : Prop :=
  (∀ n ∈ s.raised, audienceWithin n.audience s.active.readers) ∧
  (∀ r ∈ s.records, audienceWithin r.notice.audience s.active.readers) ∧
  (s.stage = .waitPwrgood ∨ s.stage = .profileRead → s.profile = none)

/-! ### Client ports and the memory port -/

/-- A client port waits for the memory port or has the access in flight (10 R185, R186). -/
def State.forwarding (s : State) (p : Port) : Bool :=
  (s.waiting.client.get p).isSome || decide (s.inFlight.map Access.holder = some (.client p))

/-- The request and the access in flight of a client port carry the kind and the address of its cycle (10 R186 (a)). -/
def cycleMatches (s : State) (p : Port) (c : Cycle) : Prop :=
  (∀ q, s.waiting.client.get p = some q → q.kind = c.kind ∧ q.addr = c.addr) ∧
  (∀ a, s.inFlight = some a → a.holder = .client p → a.kind = c.kind ∧ a.addr = c.addr)

/-- The cycle law of one port (10 R181, R182, R186): a record exists exactly outside IDLE; the port is HELD exactly
while its forwarded access waits or is in flight, and never both. -/
def CycleLawOf (s : State) (p : Port) : Prop :=
  ((s.ports.get p).state = .idle ↔ (s.ports.get p).cycle = none) ∧
  ((s.ports.get p).state = .held ↔ s.forwarding p = true) ∧
  ¬ ((s.waiting.client.get p).isSome = true ∧ s.inFlight.map Access.holder = some (.client p))

/-- The cycle law of both ports. -/
def CycleLaw (s : State) : Prop := onBoth (fun p => CycleLawOf s p ∧
  ∀ c, (s.ports.get p).cycle = some c → cycleMatches s p c)

/-- The upstream law (01 R20): a client write waits for the memory port only after READY, and only for an address
outside the journal area that its port's mask admits. -/
def UpstreamLaw (s : State) : Prop :=
  onBoth (fun p => ∀ d x, s.waiting.client.get p = some { kind := .write d, addr := x } →
    s.stage = .operating ∧ s.inJournal x = false ∧ s.admits p (s.windowOf x) = true)

/-! ### Recognizers and sessions -/

/-- The recognizer law of one port (02 R29 to R39): progress and the step timer only in WATCHING, where the timer runs
exactly while some progress is not 0; each progress below its key's step count, 0 for a disabled key; the lockout timer
exactly in LOCKED_OUT; breaks below F in WATCHING, F in LOCKED_OUT, 0 in SESSION; all at its start-up value until
READY. -/
def RecognizerLawOf (s : State) (p : Port) : Prop :=
  ((s.sqr.get p).state ≠ .watching →
    (s.sqr.get p).progress = noProgress ∧ (s.sqr.get p).stepTimer = .stopped) ∧
  ((s.sqr.get p).stepTimer ≠ .stopped ↔ (s.sqr.get p).progress ≠ noProgress) ∧
  (∀ k : Fin 4, (s.sqr.get p).progress[k] ≠ 0 → (s.sqr.get p).progress[k] < (s.key k).stepCount.toNat) ∧
  ((s.sqr.get p).state = .lockedOut ↔ (s.sqr.get p).lockoutTimer ≠ .stopped) ∧
  (s.stage = .operating → (s.sqr.get p).state = .watching → (s.sqr.get p).breaks < s.breakLimit) ∧
  ((s.sqr.get p).state = .lockedOut → (s.sqr.get p).breaks = s.breakLimit) ∧
  ((s.sqr.get p).state = .session → (s.sqr.get p).breaks = 0) ∧
  (s.stage ≠ .operating → s.sqr.get p = Sqr.fresh)

/-- The recognizer law of both ports. -/
def RecognizerLaw (s : State) : Prop := onBoth (RecognizerLawOf s)

/-- The session law of one port (02 R39, 03 R65, 08 R158): the recognizer is in SESSION exactly while the port has a
session, a session exists only with READY high and the fence OPEN, and a transaction in STAGING or OVERFLOWED exists
only while its port has a session. -/
def SessionLawOf (s : State) (p : Port) : Prop :=
  ((s.sqr.get p).state = .session ↔ (s.sessions.get p).isSome = true) ∧
  ((s.sessions.get p).isSome = true → s.stage = .operating ∧ s.fence = .opened) ∧
  (stages (s.txns.get p).state = true → (s.sessions.get p).isSome = true)

/-- The session law of both ports. -/
def SessionLaw (s : State) : Prop := onBoth (SessionLawOf s)

/-- A response queue holds at most 8 words (03 R49). -/
def ResponseLaw (s : State) : Prop :=
  onBoth (fun p => ∀ x, s.sessions.get p = some x → x.responses.length ≤ Config.responseCapacity)

/-! ### Leases -/

/-- The lease law of one window (04 R68 to R72): a LEASED window is enabled and GUARDED, its holder is in its port
mask and has a session opened by the key of the record, that key is in its key mask, and some budget remains. -/
def LeaseLawOf (s : State) (w : Fin 16) : Prop :=
  ∀ r, s.lease w = .leased r →
    (s.window w).enable = true ∧ (s.window w).policy = .guarded ∧ (s.window w).ports.get r.holder = true ∧
    (s.window w).keyMask.getLsbD r.key.val = true ∧ (s.sessions.get r.holder).map Session.key = some r.key ∧
    r.budget ≠ some 0#16

/-- The lease law of all windows. -/
def LeaseLaw (s : State) : Prop := ∀ w : Fin 16, LeaseLawOf s w

/-! ### Transactions, the stage buffer and the claims -/

/-- A transaction in the engine (06 R116). -/
def inEngine : TxnState → Bool
  | .logging | .applying | .clearing => true
  | .none | .staging | .overflowed | .queued => false

/-- The entries of one owner (05 R87, R88): they stand at positions 0 to n − 1 in the order they joined, and n is at
most J (05 R101). -/
def StagedLawOf (s : State) (o : Owner) : Prop :=
  (s.sb.filter (fun e => decide (e.owner = o))).map Entry.position = List.range (s.entryCount o) ∧
  s.entryCount o ≤ s.journalEntries

/-- The staged law (05 R87, R88): at most 512 entries in all; no transaction holds two entries with one address; a port
holds entries only after READY, while it has a transaction; RECOVERY entries are in the stage buffer only during
recovery, while the engine works on them, and after READY with the engine FAULTED (05 R89, 07 R151, R152). -/
def StagedLaw (s : State) : Prop :=
  s.sb.length ≤ Config.stageCapacity ∧
  onBoth (fun p => StagedLawOf s (.port p)) ∧ StagedLawOf s .recovery ∧
  onBoth (fun p =>
    ((s.sb.filter (fun e => decide (e.owner = .port p))).map Entry.addr).Nodup ∧
    (s.sb.any (fun e => decide (e.owner = .port p)) = true →
      s.stage = .operating ∧ (s.txns.get p).state ≠ .none)) ∧
  (s.sb.any (fun e => decide (e.owner = .recovery)) = true →
    (s.stage = .recovery ∧ s.engine.current = some .recovery) ∨
    (s.stage = .operating ∧ s.engine.state = .faulted))

/-- The claim law of one window (05 R94): a claimed window is enabled and transactional and the claiming transaction
holds an entry in it. -/
def ClaimLawOf (s : State) (w : Fin 16) : Prop :=
  ∀ p, s.claim w = some p →
    (s.window w).enable = true ∧ (s.window w).transactional = true ∧
    ∃ e ∈ s.sb, e.owner = .port p ∧ s.windowOf e.addr = some w

/-- The claim law of all windows, with its converse: an entry of a port lies in a window that its transaction
claims (05 R92, R94). -/
def ClaimLaw (s : State) : Prop :=
  (∀ w : Fin 16, ClaimLawOf s w) ∧
  ∀ e ∈ s.sb, ∀ p, e.owner = .port p → (s.windowOf e.addr).map s.claim = some (some p)

/-! ### The journal engine and the commit queue -/

/-- The transaction state that goes with an engine state (06 Table 6-2). -/
def txnStateOf : EngineState → TxnState
  | .logging => .logging
  | .applying => .applying
  | .clearing => .clearing
  | .idle => .none
  | .replayLoad => .none
  | .faulted => .none

/-- The engine works on a port's transaction. -/
def Engine.ported (e : Engine) : Prop := e.current = some (.port .a) ∨ e.current = some (.port .b)

/-- Which word may be in hand, and where it is written: journal words in LOGGING for a port's transaction, home words
in APPLYING, the state word in CLEARING, the words of formatting and of a damaged header in recovery (06 R121, Table
6-3; 07 R147, R149, R151). -/
def roleFits (s : State) : WordRole → Prop
  | .slot _ _ => s.engine.state = .logging ∧ s.engine.ported
  | .header _ => s.engine.state = .logging ∧ s.engine.ported
  | .logged => s.engine.state = .logging ∧ s.engine.ported
  | .restore => s.engine.state = .logging ∧ s.engine.ported
  | .home _ => s.engine.state = .applying ∧ s.engine.current ≠ none
  | .clear => s.engine.state = .clearing ∧ s.engine.current ≠ none
  | .format _ => s.engine.state = .clearing ∧ s.engine.current = none ∧ s.stage = .recovery
  | .formatClear => s.engine.state = .clearing ∧ s.engine.current = none ∧ s.stage = .recovery
  | .damagedClear => s.engine.state = .clearing ∧ s.engine.current = none ∧ s.stage = .recovery

/-- The places of the course's words: slots 0 to n − 1 of three words, header words 1 to 4, home positions 0 to n − 1,
header words 1 to 7 in formatting (06 R118, R121; 07 R147). -/
def roleInRange (s : State) : WordRole → Prop
  | .slot i j => i < s.engineCount ∧ j ≤ 2
  | .header h => 1 ≤ h ∧ h ≤ 4
  | .home k => k < s.engineCount
  | .format h => 1 ≤ h ∧ h ≤ 7
  | .logged => True
  | .clear => True
  | .restore => True
  | .formatClear => True
  | .damagedClear => True

/-- A word of the course that is no home word. -/
def WordRole.inHeaderOrSlot : WordRole → Bool
  | .home _ => false
  | .slot _ _ | .header _ | .logged | .clear | .restore | .format _ | .formatClear | .damagedClear => true

/-- The engine's request or access: a write of its word in hand, or a read (06 R114, 10 R186 (b)). -/
def engineAsks (s : State) (kind : AccessKind) (x : Addr) : Prop :=
  match kind with
  | .read => True
  | .write d => ∃ w, s.engine.word = some w ∧ w.value = d ∧ w.addr = x

/-- The word law (06 R114, R118, R121; 10 R186 (b)): the word in hand fits the engine's state, has the address and the
value that its place in the course gives, lies in the journal area unless it is a home word, and is at attempt 1 to 3;
the engine's writes are writes of the word in hand; it asks for one access at a time, and for none in IDLE and
FAULTED. -/
def WordLaw (s : State) : Prop :=
  (∀ w, s.engine.word = some w →
    roleFits s w.role ∧ roleInRange s w.role ∧ 1 ≤ w.attempt ∧ w.attempt ≤ 3 ∧
    w.addr = s.roleAddr w.role ∧ w.value = s.roleValue w.role ∧
    (w.role.inHeaderOrSlot = true → s.inJournal w.addr = true)) ∧
  (∀ q, s.waiting.engine = some q → engineAsks s q.kind q.addr ∧ s.engineInFlight = false) ∧
  (∀ a, s.inFlight = some a → a.holder = .engine → engineAsks s a.kind a.addr) ∧
  (s.stage = .operating → s.engine.state = .idle ∨ s.engine.state = .faulted →
    s.engine.word = none ∧ s.waiting.engine = none ∧ s.engineInFlight = false) ∧
  (s.stage = .stopped ∨ s.stage = .waitPwrgood →
    s.engine.word = none ∧ s.waiting.engine = none ∧ s.engineInFlight = false) ∧
  (s.stage = .profileRead ∨ s.recovery.phase ≠ .none → s.engine.word = none)

/-- The course law of start-up (07 R146 to R151): the engine is at rest until recovery begins, and a recovery pass
runs in REPLAY_LOAD during recovery only. -/
def CourseLaw (s : State) : Prop :=
  (s.stage = .stopped ∨ s.stage = .waitPwrgood ∨ s.stage = .profileRead →
    s.engine.state = .idle ∧ s.engine.current = none) ∧
  (s.recovery.phase ≠ .none → s.stage = .recovery ∧ s.engine.state = .replayLoad) ∧
  (s.recovery.phase = .header ∨ s.recovery.phase = .check → s.engine.current = none) ∧
  (s.recovery.phase = .load → s.engine.current = some .recovery) ∧
  (s.stage = .operating →
    (s.engine.current = none ↔ s.engine.state = .idle ∨ s.engine.state = .faulted) ∧
    s.engine.current ≠ some .recovery) ∧
  (s.engine.ported → s.stage = .operating)

/-- The slot passes of recovery (07 R149, R150): each begins with no slot word read; they run with an entry count of 1
to J, the words read are fewer than the 3n to read, and each three words of the loading pass have joined one entry;
recovery has a journal area. -/
def SlotLaw (s : State) : Prop :=
  (s.recovery.phase = .header → s.recovery.slots = []) ∧
  (s.recovery.phase = .header ∨ s.recovery.phase = .check → s.recovery.loaded = []) ∧
  (s.recovery.phase = .check ∨ s.recovery.phase = .load → 1 ≤ s.loggedCount ∧ s.loggedCount ≤ s.journalEntries) ∧
  (s.recovery.phase = .check → s.recovery.slots.length < 3 * s.loggedCount) ∧
  (s.recovery.phase = .load → s.recovery.loaded.length < 3 * s.loggedCount ∧
    s.entryCount .recovery = s.recovery.loaded.length / 3) ∧
  (s.stage = .recovery → s.journalEntries ≠ 0)

/-- The commit law (05 R104, 06 R116, R130): at most one transaction is in LOGGING, APPLYING or CLEARING, the engine's
current one, in the engine's state; the queue holds exactly the QUEUED transactions, at most one, and none before
READY or in FAULTED; an accepted transaction holds an entry. -/
def CommitLaw (s : State) : Prop :=
  onBoth (fun p => inEngine (s.txns.get p).state = true ↔ s.engine.current = some (.port p)) ∧
  onBoth (fun p => s.engine.current = some (.port p) → (s.txns.get p).state = txnStateOf s.engine.state) ∧
  onBoth (fun p => p ∈ s.commitQueue ↔ (s.txns.get p).state = .queued) ∧
  s.commitQueue.length ≤ 1 ∧
  (s.engine.state = .faulted ∨ s.stage ≠ .operating → s.commitQueue = []) ∧
  onBoth (fun p => acceptedState (s.txns.get p).state = true → 1 ≤ s.entryCount (.port p))

/-! ### The profile in force -/

/-- The profile law (01 R2, R7; 07 R141): no two enabled windows share a word, no enabled window meets the journal
area, no command address lies in it, and every value is in its range (check 11 with the word 0 of a legal background
policy, since the profile in force has one of the two). From the start of recovery on a profile is in force. -/
def ProfileLaw (s : State) : Prop :=
  (∀ f, s.profile = some f →
    checkRange f = none ∧ checkOverlap f = none ∧ checkPlace f = none ∧ checkSize f = none ∧ checkKeys f = none ∧
    checkCommand f = none ∧ checkTimers f 0#16 = none) ∧
  (s.stage = .recovery ∨ s.stage = .operating → s.profile ≠ none)

/-! ### The laws that rest on one another -/

/-- Profile, fence, sessions, stage buffer and claims. -/
def StagingLaws (s : State) : Prop := ProfileLaw s ∧ FenceLaw s ∧ SessionLaw s ∧ StagedLaw s ∧ ClaimLaw s

/-- The journal engine, recovery and the commit queue. -/
def EngineLaws (s : State) : Prop := WordLaw s ∧ CourseLaw s ∧ SlotLaw s ∧ CommitLaw s

/-! ### Forms the statements use: cycles and commands -/

/-- A port that can take a cycle: the supply in range and the port IDLE (10 R181). -/
def State.canTake (s : State) (p : Port) : Prop := s.supply = true ∧ (s.ports.get p).state = .idle

/-- A port whose cycle is complete: ENDING with its record and the answer of a read, or, when the cycle is abandoned,
IDLE in the same event (10 R181 to R183). -/
def closedPort (y : Cycle) (answer : Option Word) (c : ClientPort) : ClientPort :=
  if y.abandoned then { state := .idle, cycle := none, early := c.early }
  else { state := .ending, cycle := some { y with answer := answer }, early := c.early }

/-- A port with a cycle taken and complete, abandoned or not. -/
def endedPort (kind : AccessKind) (x : Addr) (gone : Bool) (answer : Option Word) (c : ClientPort) : ClientPort :=
  closedPort { kind := kind, addr := x, answer := none, abandoned := gone } answer c

/-- The state with a port's cycle taken and ended. -/
def State.withEnded (s : State) (p : Port) (kind : AccessKind) (x : Addr) (gone : Bool) (answer : Option Word) :
    State :=
  s.setPort p (endedPort kind x gone answer (s.ports.get p))

/-- The state with a port HELD and its access waiting for the memory port (10 R181, R186). -/
def State.withWaiting (s : State) (p : Port) (kind : AccessKind) (x : Addr) (gone : Bool) : State :=
  (s.setPort p (heldPort kind x gone (s.ports.get p))).setClientRequest p (some { kind := kind, addr := x })

/-- A port that can take a cycle after READY and whose next access to its command address is the SC's, with the
session it has and the free words the command needs (01 R11, 03 R51). -/
def State.takesVerb (s : State) (p : Port) (y : Session) (need : Nat) : Prop :=
  s.canTake p ∧ s.stage = .operating ∧ s.sessions.get p = some y ∧ need ≤ freeWords y

/-- The state after a command word whose whole effect is its words in the response queue: the cycle ended, the idle
timer started afresh, the words at the newest end (03 R46, R48, R49). -/
def State.replied (s : State) (p : Port) (verb operand : Byte) (gone : Bool) (y : Session) (words : List Word) :
    State :=
  (s.withEnded p (.write (commandWord verb operand)) (s.commandAddress p) gone none).setSession p
    (some { y with idleTimer := .running (s.active.sessionIdle.toNat * 100), responses := y.responses ++ words })

/-! ### Forms the statements use: events -/

/-- An event as raised now. -/
def State.noticeOf (s : State) (name : EventName) (who : Concerned) (w : Option (Fin 16)) (hi lo : Word) : Notice :=
  { name := name, who := who, window := w, hi := hi, lo := lo, audience := s.audience who }

/-- What raising an event adds to those that wait for the event queue: the event, or nothing when no reader is
concerned (09 R171). -/
def State.told (s : State) (name : EventName) (who : Concerned) (w : Option (Fin 16)) (hi lo : Word) : List Notice :=
  if (s.audience who).some then [s.noticeOf name who w hi lo] else []

/-- TXN_OUTCOME of a port's transaction as it stands (05 R106 (e)). -/
def State.outcomeNotice (s : State) (p : Port) (o : TxnOutcome) : List Notice :=
  s.told .txnOutcome (.port p) none
    (outcomeDetail o (s.txns.get p).number.isSome (s.entryCount (.port p))) ((s.txns.get p).number.getD 0#16)

/-- The lease of a window as LEASE_ENDED reports it. -/
def State.leaseCount (s : State) (w : Fin 16) : Word :=
  match s.lease w with
  | .leased r => r.count
  | .closed => 0#16
  | .holdoff _ => 0#16

/-- The events of the end of a port's session, in the order of 03 R65. -/
def State.sessionEndNotices (s : State) (p : Port) (cause : SessionCause) : List Notice :=
  (allWindows.filter (fun w => s.leasedTo w p)).flatMap (fun w =>
      s.told .leaseEnded (.port p) (some w) (leaseCauseCode (leaseCauseOf cause)) (s.leaseCount w)) ++
    (if stages (s.txns.get p).state then s.outcomeNotice p .discarded else []) ++
    s.told .sessionEnded (.port p) none 0#16 (sessionCauseCode cause)

/-- What the end of a port's session does, and all that it does, but for the port's own cycle (03 R65). -/
def SessionEnded (s t : State) (p : Port) (cause : SessionCause) : Prop :=
  t = { s with
    ports := t.ports, sessions := s.sessions.set p none, sqr := s.sqr.set p Sqr.fresh, leases := t.leases,
    txns := t.txns, sb := t.sb, claims := t.claims, commitQueue := t.commitQueue, raised := t.raised } ∧
  (∀ w : Fin 16, s.leasedTo w p = true → t.lease w = afterLease (s.window w)) ∧
  (∀ w : Fin 16, s.leasedTo w p = false → t.lease w = s.lease w) ∧
  (stages (s.txns.get p).state = true →
    t.txns = s.txns.set p Txn.empty ∧ t.sb = s.sb.filter (fun e => decide (e.owner ≠ .port p)) ∧
    (∀ w : Fin 16, t.claim w = if s.claim w = some p then none else s.claim w) ∧
    t.commitQueue = s.commitQueue.filter (fun q => decide (q ≠ p))) ∧
  (stages (s.txns.get p).state = false →
    t.txns = s.txns.set p { s.txns.get p with linked := false } ∧ t.sb = s.sb ∧ t.claims = s.claims ∧
    t.commitQueue = s.commitQueue) ∧
  t.raised = s.raised ++ s.sessionEndNotices p cause

/-! ### Forms the statements use: the stage buffer and the engine -/

/-- The engine writes its word in hand: the write is in flight (06 R114). -/
def State.engineWriting (s : State) (w : WordInHand) : Prop :=
  s.inFlight = some { holder := .engine, kind := .write w.value, addr := w.addr } ∧ s.engine.word = some w

/-- The engine reads back its word in hand (06 R114). -/
def State.engineVerifying (s : State) (w : WordInHand) : Prop :=
  s.inFlight = some { holder := .engine, kind := .read, addr := w.addr } ∧ s.engine.word = some w

/-- A stop waits for the engine's access to finish (06 R124). -/
def State.stopWaits (s : State) : Prop :=
  s.engine.state = .logging ∧ s.engine.stop ≠ none ∧ s.engine.restoring = false

/-- The engine at rest, its numbers kept but for the last cleared one (06 R112, R123). -/
def Engine.atRest (e : Engine) (state : EngineState) : Engine :=
  { e with state := state, current := none, word := none, restoring := false, stop := none }

/-- The outcome that a stop cause gives (06 R124). -/
def stopOutcome : StopCause → TxnOutcome
  | .abort => .aborted
  | .fence => .fenced

/-- What the engine does once its stop has been taken and its access is over: a restoring write when a write of LOGGED
was granted, otherwise the end of port p's transaction by the first stop cause (06 R124). -/
def State.stoppedWith (s : State) (p : Port) (w : WordInHand) (first : StopCause) : State :=
  if w.role = .logged ∧ w.granted = true then
    placeWord .restore { s with engine := { s.engine with stop := some first, restoring := true } }
  else { endTxn p (stopOutcome first) s with
    engine := s.engine.atRest .idle, waiting := { s.waiting with engine := none } }

/-- The end of journal recovery: the pass and the engine at rest, the numbers that the header found gives, the result
(07 Table 7-5, R153). -/
def State.recovered (s : State) (state : EngineState) (result : RecoveryResult) : State :=
  let found := s.headerRead 0 = 0xA55A#16 ∨ s.headerRead 0 = 0x5AA5#16
  { s with
    recovery := { s.recovery with phase := .none, result := result },
    engine := { s.engine.atRest state with
      nextNumber := if found then s.headerRead 1 + 1#16 else 1#16,
      lastCleared := if found then s.headerRead 1 else 0#16 },
    waiting := { s.waiting with engine := none } }

/-- The engine has a word in hand, fresh, and requests its write (06 R114). -/
def State.hasInHand (s : State) (role : WordRole) (x : Addr) (value : Word) : Prop :=
  s.engine.word = some { role := role, addr := x, value := value, attempt := 1, granted := false } ∧
  s.waiting.engine = some { kind := .write value, addr := x }

/-! ### Forms the statements use: the fence -/

/-- A transaction that the entry into the fence ends at once: STAGING, OVERFLOWED or QUEUED, or in LOGGING when no
access of the engine is in flight and no write of LOGGED was granted (08 R158, R162, R163). -/
def State.fenceEnds (s : State) (p : Port) : Bool :=
  match (s.txns.get p).state with
  | .staging | .overflowed | .queued => true
  | .logging => !s.engine.restoring && !s.engineInFlight &&
      !s.engine.word.any (fun w => decide (w.role = .logged ∧ w.granted = true))
  | .none | .applying | .clearing => false

/-- The events of the fence's entry after FENCE_ENTERED, in the order of 08 R158: the sessions of A and B, a QUEUED
transaction, the transaction in LOGGING that ends at once. -/
def State.fenceNotices (s : State) : List Notice :=
  let ofSession (p : Port) := if (s.sessions.get p).isSome then s.sessionEndNotices p .fence else []
  let ofQueued (p : Port) := if (s.txns.get p).state = .queued then s.outcomeNotice p .fenced else []
  let ofLogging (p : Port) := if (s.txns.get p).state = .logging ∧ s.fenceEnds p = true then
    s.outcomeNotice p (stopOutcome (s.engine.stop.getD .fence)) else []
  ofSession .a ++ ofSession .b ++ ofQueued .a ++ ofQueued .b ++ ofLogging .a ++ ofLogging .b

/-- The entry into the fence, and all that it does (08 R158, R162, R163). -/
def FenceEntered (s t : State) : Prop :=
  t = { s with
    pwrgood := false, fence := .fenced, sessions := { a := none, b := none }, sqr := t.sqr, leases := t.leases,
    txns := t.txns, sb := s.sb.filter (fun e => match e.owner with
      | .port p => !s.fenceEnds p
      | .recovery => true),
    claims := t.claims, commitQueue := [], engine := t.engine, waiting := t.waiting,
    raised := s.raised ++ s.told .fenceEntered .part none 0#16 0#16 ++ s.fenceNotices } ∧
  (∀ p : Port, t.sqr.get p = match (s.sqr.get p).state with
    | .watching => { s.sqr.get p with progress := #v[0, 0, 0, 0], stepTimer := .stopped }
    | .lockedOut => s.sqr.get p
    | .session => Sqr.fresh) ∧
  (∀ w : Fin 16, t.lease w = match s.lease w with
    | .leased _ => afterLease (s.window w)
    | .closed => .closed
    | .holdoff ms => .holdoff ms) ∧
  (∀ p : Port, t.txns.get p = if s.fenceEnds p then Txn.empty
    else { s.txns.get p with linked := if (s.sessions.get p).isSome then false else (s.txns.get p).linked }) ∧
  (∀ w : Fin 16, t.claim w = (s.claim w).filter (fun p => !s.fenceEnds p)) ∧
  (s.engine.state ≠ .logging → t.engine = s.engine ∧ t.waiting = s.waiting) ∧
  (s.engine.state = .logging →
    t.engine = (stopEngine .fence s).engine ∧ t.waiting = (stopEngine .fence s).waiting)

/-! ### Forms the statements use: reset -/

/-- A client cycle as the fall of RESETN or the loss of supply leaves it: a held cycle is completed toward its client,
a read with 0xFFFF; an abandoned one leaves the port IDLE (07 R135, 10 R183, R184). -/
def CycleStopped (s t : State) (p : Port) : Prop :=
  (∀ y, (s.ports.get p).state = .held → (s.ports.get p).cycle = some y →
    t.ports.get p =
      if y.abandoned then ClientPort.fresh
      else { state := .ending, early := 0#16,
             cycle := some { y with answer := match y.kind with
              | .read => some 0xFFFF#16
              | .write _ => none } }) ∧
  ((s.ports.get p).state ≠ .held → t.ports.get p = { s.ports.get p with early := 0#16 })

/-- The end of every block's activity: each field but the pins, the ports' cycles and the guarded memory is as in
reset (07 R135, R136). -/
def ActivityEnded (s t : State) : Prop :=
  t = { State.reset with
    supply := t.supply, resetn := t.resetn, pwrgood := s.pwrgood, pbyp := s.pbyp, ports := t.ports,
    memory := t.memory, pending := s.pending } ∧
  CycleStopped s t .a ∧ CycleStopped s t .b

end Sys2Proof.Machine
end

