-- ==== Sys2Proof/WellFormed.lean ====
section
/-! DEFINITION. Which commands are rows of the table as written: the one check the operand types leave open is
BADVERB's verb byte (03 R53). -/

namespace Sys2Proof

/-- The verb bytes of Table 3-2: 0x01 to 0x09 (03 R53). -/
def knownVerb (v : Byte) : Bool := 1 ≤ v.toNat && v.toNat ≤ 9

/-- A command is well formed when its operands are of its row: BADVERB carries a verb byte that is none of 0x01
to 0x09, the byte 0x00 included (03 R53). Every other operand type holds the row's operands exactly. -/
def Instr.wellFormed : Instr → Bool
  | .badVerb _ v _ => !knownVerb v
  | .powerUp _ _ _ | .resetnRise _ _ | .resetnFall _ | .supplyLoss _ | .pwrgoodWaitEnd
  | .profileWordRead _ | .journalHeaderRead | .journalSlotCheckRead | .replayLoadRead
  | .memoryPortGrant | .forwardedReadComplete _ | .forwardedWriteComplete _
  | .engineWriteComplete _ | .engineReadBackComplete _ | .engineTake
  | .clientRead _ _ | .clientWrite _ _ _ | .commandAddressRead _
  | .openLease _ _ | .closeLease _ _ | .beginTxn _ _ | .commitTxn _ _ | .abortTxn _ _
  | .status _ _ | .nextEvent _ _ | .alertMask _ _ | .endSession _ _
  | .stepTimerExpiry _ | .lockoutTimerExpiry _ | .idleTimerExpiry _
  | .lifetimeTimerExpiry _ | .holdoffTimerExpiry _
  | .pwrgoodFall | .pwrgoodRise | .cycleAbandoned _ | .cycleEndingExit _ | .eventArrival
  | .pwrgoodChangeInStartUp _ => true

end Sys2Proof
end

