-- ==== Sys2Proof/Certificates/Slice0/Obligations.lean ====
section
/-! DEFINITION. The statements for the provers. -/

open Sys2Proof Sys2Proof.Machine

/-! ### The step (00 section 0.8, 95) -/

/-- A step performs the command at the front of the queue on the state with the queue's rest. -/
def Obligations.StepPerformsTheFrontCommand : Prop :=
  ∀ (c : Instr) (rest : List Instr) (s : State),
    step { s with pending := c :: rest } = exec c { s with pending := rest }

/-- On an empty queue a step counts one millisecond of the time base, unless the blocks are stopped or a raised
event still waits, and changes nothing else (the model's choice, log 7). -/
def Obligations.EmptyQueueStepCountsOneMillisecond : Prop :=
  ∀ s : State, s.pending = [] →
    step s = .next { s with
      timeBase := if s.stage ≠ .stopped ∧ s.raised = [] then s.timeBase + 1#16 else s.timeBase }

/-- Every command completes in every state and leaves the commands behind it as they were. That none stops the part
is the model's reading (log 22), and that a command whose event cannot occur completes with no effect is the model's
choice (log 9). -/
def Obligations.EveryCommandCompletesAndLeavesTheQueue : Prop :=
  ∀ (c : Instr) (s : State), ∃ t, exec c s = .next t ∧ t.pending = s.pending

/-- A memory word changes only when a write to it is the access in flight on the memory port. -/
def Obligations.MemoryChangesOnlyAtTheWriteInFlight : Prop :=
  ∀ (c : Instr) (s t : State), exec c s = .next t → ∀ a : Nat, memRead t.memory a ≠ memRead s.memory a →
    ∃ (x : Access) (d : Word), s.inFlight = some x ∧ x.kind = .write d ∧ x.addr.toNat = a

/-! ### Laws that every step keeps -/

/-- While the supply is out of range or RESETN is low the blocks are stopped and hold their start-up values, but for
the cycles that clients make. -/
def Obligations.StoppedPartHoldsStartUpValues : Prop :=
  ∀ s t : State,
    (ResetLaw s ∧ (s.stage = .stopped → s = { initialise s with ports := s.ports })) → step s = .next t →
      ResetLaw t ∧ (t.stage = .stopped → t = { initialise t with ports := t.ports })

/-- The guarded memory keeps its canonical form at every step. -/
def Obligations.MemoryLawIsKept : Prop :=
  ∀ s t : State, MemoryLaw s → step s = .next t → MemoryLaw t

/-- The event queue holds at most 32 records, each with a non-empty audience, at most one of them a marker, the
newest, at every step. -/
def Obligations.EventLawIsKept : Prop :=
  ∀ s t : State, EventLaw s ∧ ReaderLaw s → step s = .next t → EventLaw t ∧ ReaderLaw t

/-- The recognizers keep their law at every step: the step timer runs exactly while some progress is not 0, progress
stays below the key's step count, and breaks stay below F until the lockout, where they are F. -/
def Obligations.RecognizerLawIsKept : Prop :=
  ∀ s t : State, (StagingLaws s ∧ EngineLaws s ∧ RecognizerLaw s) → step s = .next t → RecognizerLaw t

/-- The fence, the sessions, their response queues and the leases keep their laws together at every step. -/
def Obligations.SessionAndLeaseLawsAreKept : Prop :=
  ∀ s t : State, FenceLaw s ∧ SessionLaw s ∧ ResponseLaw s ∧ LeaseLaw s → step s = .next t →
    FenceLaw t ∧ SessionLaw t ∧ ResponseLaw t ∧ LeaseLaw t

/-- Each client port has at most one access, HELD exactly while it waits for the memory port or is on it, and a
write waits there only after READY and only for a word outside the journal area. -/
def Obligations.CycleLawIsKept : Prop :=
  ∀ s t : State, CycleLaw s ∧ UpstreamLaw s → step s = .next t → CycleLaw t ∧ UpstreamLaw t

/-- The profile in force is sound, the stage buffer holds at most 512 entries and at most J of one owner at
positions 0 to n − 1, no transaction holds an address twice, and claims and staged entries go together, at every
step. -/
def Obligations.StagingLawsAreKept : Prop :=
  ∀ s t : State, (StagingLaws s ∧ EngineLaws s) → step s = .next t → StagingLaws t

/-- The engine writes only its word in hand, with the address and the value that its place in the course gives, inside
the journal area but for a home word: journal words in LOGGING, home words in APPLYING and the state word in CLEARING.
At most one transaction is past QUEUED, at most one is QUEUED, each with an entry, and it stays so at every step. -/
def Obligations.EngineLawsAreKept : Prop :=
  ∀ s t : State, (StagingLaws s ∧ EngineLaws s) → step s = .next t → EngineLaws t

/-- The laws hold in the state after reset. -/
def Obligations.LawsHoldAtReset : Prop :=
  ResetLaw State.reset ∧ State.reset = { initialise State.reset with ports := State.reset.ports } ∧
  MemoryLaw State.reset ∧ EventLaw State.reset ∧ ReaderLaw State.reset ∧ RecognizerLaw State.reset ∧
  FenceLaw State.reset ∧ SessionLaw State.reset ∧ ResponseLaw State.reset ∧ LeaseLaw State.reset ∧
  CycleLaw State.reset ∧ UpstreamLaw State.reset ∧ ProfileLaw State.reset ∧ StagedLaw State.reset ∧
  ClaimLaw State.reset ∧ WordLaw State.reset ∧ CourseLaw State.reset ∧ SlotLaw State.reset ∧
  CommitLaw State.reset

/-! ### Start-up, reset and supply (chapter 7) -/

/-- With PBYP low, the release of reset, and power-up with RESETN high, put every block at its start-up value and
begin the profile read, or the wait for PWRGOOD; power-up with RESETN low leaves the part held in reset. With PBYP
high the bypass profile is installed, BYPASS and STARTED are raised for both ports and READY rises at once; with
PWRGOOD low the part is fenced in the same event. -/
def Obligations.StartUpBeginsFromStartUpState : Prop :=
  ((∀ (pwrgood : Bool) (s : State), s.stage = .stopped →
    exec (.powerUp false pwrgood true) s = .next { State.reset with
      supply := true, resetn := true, pwrgood := pwrgood, pbyp := false,
      stage := if pwrgood then .profileRead else .waitPwrgood,
      waiting := { client := { a := none, b := none },
                   engine := if pwrgood then some { kind := .read, addr := 0#20 } else none },
      memory := s.memory, pending := s.pending }) ∧
  (∀ (pbyp pwrgood : Bool) (s : State), s.stage = .stopped →
    exec (.powerUp pbyp pwrgood false) s = .next { State.reset with
      pwrgood := pwrgood, pbyp := pbyp, memory := s.memory, pending := s.pending }) ∧
  (∀ (pbyp pwrgood : Bool) (s : State), s.stage = .stopped → s.supply = true → s.resetn = false →
    exec (.resetnRise pbyp pwrgood) s = exec (.powerUp pbyp pwrgood true) s)) ∧
  (∀ (pwrgood : Bool) (s : State), s.stage = .stopped →
    exec (.powerUp true pwrgood true) s = .next { State.reset with
      supply := true, resetn := true, pwrgood := pwrgood, pbyp := true, stage := .operating,
      profile := some bypassProfile, profileStatus := .bypass, alertMask := { a := 0xFF#8, b := 0xFF#8 },
      fence := if pwrgood then .opened else .fenced,
      raised :=
        [{ name := .bypass, who := .part, window := none, hi := 0#16, lo := 0#16,
           audience := { a := true, b := true } },
         { name := .started, who := .part, window := none, hi := 0x2000#16, lo := 0#16,
           audience := { a := true, b := true } }] ++
        if pwrgood then [] else
          [{ name := .fenceEntered, who := .part, window := none, hi := 0#16, lo := 1#16,
             audience := { a := true, b := true } }],
      memory := s.memory, pending := s.pending })

/-- A fall of RESETN ends the activity of every block: held cycles are completed toward their clients, READY and
both ALERT lines are low, a write under way is completed in memory as the device leaves it, and no other word
changes. A loss of supply ends activity in the same way, but a word being written is left old or new. -/
def Obligations.ResetAndSupplyLossEndActivity : Prop :=
  (∀ (answer : MemoryAnswer) (s : State), s.supply = true → s.resetn = true →
    ∃ t, exec (.resetnFall answer) s = .next t ∧ ActivityEnded s t ∧ t.supply = true ∧ t.resetn = false ∧
      t.ready = false ∧ t.alert .a = false ∧ t.alert .b = false ∧
      (∀ (x : Access) (d : Word), s.inFlight = some x → x.kind = .write d →
        t.memory = memWrite s.memory x.addr.toNat (match answer with
          | .sound => d
          | .faulty w => w)) ∧
      ((∀ (x : Access) (d : Word), s.inFlight = some x → x.kind ≠ .write d) → t.memory = s.memory)) ∧
  (∀ (landed : Bool) (s : State), s.supply = true →
    ∃ t, exec (.supplyLoss landed) s = .next t ∧ ActivityEnded s t ∧ t.supply = false ∧ t.resetn = s.resetn ∧
      t.ready = false ∧
      (∀ (x : Access) (d : Word), s.inFlight = some x → x.kind = .write d →
        t.memory = memWrite s.memory x.addr.toNat (if landed then d else memRead s.memory x.addr.toNat)) ∧
      ((∀ (x : Access) (d : Word), s.inFlight = some x → x.kind ≠ .write d) → t.memory = s.memory))

/-- The wait for PWRGOOD ends with the profile read: word 0 of bank 0 is requested. That the command brings the level
with it, if the level held is still low, is the model's choice (log 24). -/
def Obligations.PwrgoodEndsTheWait : Prop :=
  ∀ s : State, s.stage = .waitPwrgood →
    exec .pwrgoodWaitEnd s = .next { s with
      pwrgood := true, stage := .profileRead, candidate := [],
      waiting := { s.waiting with engine := some { kind := .read, addr := 0#20 } } }

/-- The 272 profile words are read in ascending order as the memory returns them; after the last the candidate is
installed and READY rises or recovery begins, or it is rejected and discarded with the first failing check's reason
and item and READY rises under the fallback profile. -/
def Obligations.ProfileWordsAreReadAndJudged : Prop :=
  ∀ (answer : MemoryAnswer) (s : State) (x : Addr), s.stage = .profileRead →
    s.inFlight = some { holder := .engine, kind := .read, addr := x } →
    let word := match answer with
      | .sound => memRead s.memory x.toNat
      | .faulty w => w
    let candidate := s.candidate ++ [word]
    let read := { s with candidate := candidate, inFlight := none }
    (candidate.length < 272 →
      exec (.profileWordRead answer) s = .next { read with
        waiting := { s.waiting with engine := some { kind := .read, addr := BitVec.ofNat 20 candidate.length } } }) ∧
    (272 ≤ candidate.length →
      (∀ (r : RejectReason) (item : Word), validateProfile candidate = some (r, item) →
        exec (.profileWordRead answer) s = .next (readyRise (raise .profileRejected .part none
          ((rejectCode r).setWidth 16) item { read with
            candidate := [], profile := some fallbackProfile, profileStatus := .rejected r,
            alertMask := { a := 0xFF#8, b := 0xFF#8 } }))) ∧
      (validateProfile candidate = none →
        let f := parseProfile candidate
        let installed := { read with profile := some f, profileStatus := .valid, alertMask := f.alertDefault }
        (f.journalCapacity = 0#16 → exec (.profileWordRead answer) s = .next (readyRise installed)) ∧
        (f.journalCapacity ≠ 0#16 → exec (.profileWordRead answer) s = .next { installed with
          stage := .recovery, recovery := { Recovery.fresh with phase := .header },
          engine := { s.engine with state := .replayLoad },
          waiting := { s.waiting with engine := some { kind := .read, addr := f.journalBase } } })))

/-- Validation answers with the first check of Table 7-4 that fails, with its reason and the first failing item, and
with none when all pass: enabled windows with base above limit, two that share a word, a journal area past the top
or on a window or on words 0 to 511 (the lowest window shared is the item whatever else fails, log 16), a journal
size, a step count, a command address in the area, a timer or limit out of its range. -/
def Obligations.ValidationReportsTheFirstFailingCheck : Prop :=
  ∀ ws : List Word,
    let f := parseProfile ws
    let answers (a : Option (RejectReason × Word)) := validateProfile ws = a
    let covers (w : Fin 16) (x : Addr) : Prop := f.windows[w].enable = true ∧
      f.windows[w].base.toNat ≤ x.toNat ∧ x.toNat ≤ f.windows[w].limit.toNat
    let first (w : Fin 16) (bad : Fin 16 → Prop) : Prop := bad w ∧ ∀ v < w, ¬ bad v
    let emptyRange (w : Fin 16) : Prop :=
      f.windows[w].enable = true ∧ f.windows[w].limit.toNat < f.windows[w].base.toNat
    let shares (v : Fin 16) : Prop := ∃ w, v < w ∧ ∃ x, covers v x ∧ covers w x
    let base := f.journalBase.toNat
    let j := f.journalCapacity.toNat
    let inArea (n : Nat) : Prop := j ≠ 0 ∧ base ≤ n ∧ n < base + 8 + 3 * j
    let meets (w : Fin 16) : Prop := ∃ n, inArea n ∧ f.windows[w].enable = true ∧
      f.windows[w].base.toNat ≤ n ∧ n ≤ f.windows[w].limit.toNat
    let badPlace : Prop := ∃ n, inArea n ∧ (1048576 ≤ n ∨ n < 512 ∨ ∃ w, meets w)
    let badKey (k : Fin 4) : Prop := f.keys[k].stepCount.toNat = 1 ∨ 8 < f.keys[k].stepCount.toNat
    let ranged (w : Word) (high : Nat) : Prop := 1 ≤ w.toNat ∧ w.toNat ≤ high
    let timers : Prop := ranged f.stepTime 255 ∧ ranged f.breakLimit 15 ∧ ranged f.lockoutTime 255 ∧
      ranged f.sessionIdle 255 ∧ (∀ w : Fin 16, f.windows[w].holdoff.toNat ≤ 255) ∧ (candidateWord ws 8).toNat ≤ 1
    let fromKeys : Prop :=
      (∀ k, badKey k → (∀ i < k, ¬ badKey i) → answers (some (.keySteps, BitVec.ofNat 16 k.val))) ∧
      ((∀ k, ¬ badKey k) →
        (inArea f.command.a.toNat → answers (some (.cmdPlace, 0#16))) ∧
        (¬ inArea f.command.a.toNat → inArea f.command.b.toNat → answers (some (.cmdPlace, 1#16))) ∧
        (¬ inArea f.command.a.toNat → ¬ inArea f.command.b.toNat →
          (¬ timers → answers (some (.timerRange, 0xFFFF#16))) ∧ (timers → answers none)))
    let fromJournal : Prop :=
      (badPlace → (∀ w, first w meets → answers (some (.journalPlace, BitVec.ofNat 16 w.val))) ∧
        ((∀ w, ¬ meets w) → answers (some (.journalPlace, 0xFFFF#16)))) ∧
      (¬ badPlace →
        (¬ (j = 0 ∨ (16 ≤ j ∧ j ≤ 512)) → answers (some (.journalSize, 0xFFFF#16))) ∧
        (j = 0 ∨ (16 ≤ j ∧ j ≤ 512) → fromKeys))
    let fromWindows : Prop :=
      (∀ w, first w emptyRange → answers (some (.windowRange, BitVec.ofNat 16 w.val))) ∧
      ((∀ w, ¬ emptyRange w) →
        (∀ v, first v shares → answers (some (.windowOverlap, BitVec.ofNat 16 v.val))) ∧
        ((∀ v, ¬ shares v) → fromJournal))
    (candidateWord ws 0 ≠ 0x5744#16 → answers (some (.signature, 0xFFFF#16))) ∧
    (candidateWord ws 0 = 0x5744#16 →
      (candidateWord ws 1 ≠ 1#16 → answers (some (.version, 0xFFFF#16))) ∧
      (candidateWord ws 1 = 1#16 →
        (candidateWord ws 2 ≠ 272#16 → answers (some (.length, 0xFFFF#16))) ∧
        (candidateWord ws 2 = 272#16 →
          (crc16 (ws.set 3 0#16) ≠ candidateWord ws 3 → answers (some (.crc, 0xFFFF#16))) ∧
          (crc16 (ws.set 3 0#16) = candidateWord ws 3 → fromWindows))))

/-- The rise of READY: STARTED, EARLY_ACCESS for A and then B where its count is not 0, and then the fence when
PWRGOOD is low, each held for the reader ports it concerns. -/
def Obligations.ReadyRiseReports : Prop :=
  ∀ s : State,
    readyRise s = { s with
      stage := .operating, fence := if s.pwrgood then s.fence else .fenced,
      raised := s.raised ++
        s.told .started .part none (startedDetail s.profileStatus) (recoveryCode s.recovery.result) ++
        (if s.ports.a.early = 0#16 then [] else s.told .earlyAccess (.port .a) none 0#16 s.ports.a.early) ++
        (if s.ports.b.early = 0#16 then [] else s.told .earlyAccess (.port .b) none 0#16 s.ports.b.early) ++
        (if s.pwrgood then [] else s.told .fenceEntered .part none 0#16 1#16) }

/-! ### Journal recovery (chapter 7) -/

/-- A CLEAR header ends recovery: the numbers are taken from header word 1, nothing is written, no event is raised
but those of the rise of READY. -/
def Obligations.ClearHeaderSetsTheNumbers : Prop :=
  ∀ (s : State) (x : Addr) (w0 w1 w2 w3 : Word), s.recovery.phase = .header → s.recovery.header = [w0, w1, w2, w3] →
    s.inFlight = some { holder := .engine, kind := .read, addr := x } → w0 = 0x5AA5#16 →
    exec .journalHeaderRead s = .next (readyRise { s with
      inFlight := none, waiting := { s.waiting with engine := none },
      recovery := { s.recovery with
        phase := .none, header := [w0, w1, w2, w3, memRead s.memory x.toNat], result := .clear },
      engine := { state := .idle, current := none, word := none, restoring := false, stop := none,
                  nextNumber := w1 + 1#16, lastCleared := w1 } })

/-- Header words are read in ascending order; an UNFORMATTED header is formatted from header word 1 on; a LOGGED
header is checked for its count and its CRC, and a failed check raises JOURNAL_DAMAGED and clears the state word. -/
def Obligations.HeaderIsReadAndClassified : Prop :=
  ∀ (s : State) (x : Addr), s.recovery.phase = .header →
    s.inFlight = some { holder := .engine, kind := .read, addr := x } →
    let header := s.recovery.header ++ [memRead s.memory x.toNat]
    let read := { s with inFlight := none, recovery := { s.recovery with header := header } }
    (header.length < 5 →
      exec .journalHeaderRead s = .next { read with waiting := { s.waiting with
        engine := some { kind := .read, addr := s.active.journalBase + BitVec.ofNat 20 header.length } } }) ∧
    (∀ w0 w1 w2 w3 w4 : Word, header = [w0, w1, w2, w3, w4] →
      (w0 ≠ 0xA55A#16 → w0 ≠ 0x5AA5#16 →
        ∃ t, exec .journalHeaderRead s = .next t ∧ t.hasInHand (.format 1) (s.active.journalBase + 1#20) 0#16 ∧
          t.engine.state = .clearing ∧ t.recovery.phase = .none ∧ t.raised = s.raised ∧
          t = { read with engine := t.engine, waiting := t.waiting, recovery := t.recovery }) ∧
      (w0 = 0xA55A#16 →
        let damaged (reason : Word) := ∃ t, exec .journalHeaderRead s = .next t ∧
          t.hasInHand .damagedClear (s.active.journalBase + 0#20) 0x5AA5#16 ∧ t.engine.state = .clearing ∧
          t.recovery.phase = .none ∧ t.raised = (raise .journalDamaged .part none reason w1 s).raised ∧
          t = { read with
            engine := t.engine, waiting := t.waiting, recovery := t.recovery, raised := t.raised }
        (w2 = 0#16 ∨ s.active.journalCapacity.toNat < w2.toNat → damaged 0#16) ∧
        (w2 ≠ 0#16 → w2.toNat ≤ s.active.journalCapacity.toNat →
          (crc16 [0xA55A#16, w1, w2, w3] ≠ w4 → damaged 1#16) ∧
          (crc16 [0xA55A#16, w1, w2, w3] = w4 →
            exec .journalHeaderRead s = .next { read with
              recovery := { s.recovery with header := header, phase := .check },
              waiting := { s.waiting with
                engine := some { kind := .read, addr := s.active.journalBase + 8#20 } } }))))

/-- The checking pass reads the 3n slot words in order and then checks them: a sound log goes to the loading pass,
any other raises JOURNAL_DAMAGED and clears the state word. -/
def Obligations.CheckingPassJudgesTheSlots : Prop :=
  ∀ (s : State) (x : Addr), s.recovery.phase = .check →
    s.inFlight = some { holder := .engine, kind := .read, addr := x } →
    let slots := s.recovery.slots ++ [memRead s.memory x.toNat]
    let read := { s with inFlight := none, recovery := { s.recovery with slots := slots } }
    let n := (s.headerRead 2).toNat
    let good := crc16 slots = s.headerRead 3 ∧ (∀ i < n,
      (wordAt slots (3 * i)).extractLsb' 4 12 = 0xE00#12 ∧
      s.inJournal (addrOfWords (wordAt slots (3 * i)) (wordAt slots (3 * i + 1))) = false ∧
      ∀ k < i, addrOfWords (wordAt slots (3 * k)) (wordAt slots (3 * k + 1)) ≠
        addrOfWords (wordAt slots (3 * i)) (wordAt slots (3 * i + 1)))
    (slots.length < 3 * n →
      exec .journalSlotCheckRead s = .next { read with waiting := { s.waiting with
        engine := some { kind := .read,
                         addr := s.active.journalBase + BitVec.ofNat 20 (8 + slots.length) } } }) ∧
    (3 * n ≤ slots.length → good →
      exec .journalSlotCheckRead s = .next { read with
        recovery := { s.recovery with slots := slots, phase := .load },
        engine := { s.engine with current := some .recovery },
        waiting := { s.waiting with
          engine := some { kind := .read, addr := s.active.journalBase + 8#20 } } }) ∧
    (3 * n ≤ slots.length → ¬ good →
      ∃ t, exec .journalSlotCheckRead s = .next t ∧
        t.hasInHand .damagedClear (s.active.journalBase + 0#20) 0x5AA5#16 ∧ t.engine.state = .clearing ∧
        t.recovery.phase = .none ∧
        t.raised = (raise .journalDamaged .part none 2#16 (s.headerRead 1) s).raised ∧
        t = { read with engine := t.engine, waiting := t.waiting, recovery := t.recovery, raised := t.raised })

/-- The loading pass reads the slots again; each third word joins a RECOVERY entry at the slot's position, and after
the last the engine applies, with the home word of position 0 in hand. -/
def Obligations.LoadingPassJoinsRecoveryEntries : Prop :=
  ∀ (s : State) (x : Addr), s.recovery.phase = .load →
    s.inFlight = some { holder := .engine, kind := .read, addr := x } →
    let loaded := s.recovery.loaded ++ [memRead s.memory x.toNat]
    let i := loaded.length / 3 - 1
    let entry : Entry :=
      { owner := .recovery, addr := addrOfWords (wordAt loaded (3 * i)) (wordAt loaded (3 * i + 1)),
        data := wordAt loaded (3 * i + 2), position := i }
    let read := { s with
      inFlight := none, recovery := { s.recovery with loaded := loaded },
      sb := if loaded.length % 3 = 0 then s.sb ++ [entry] else s.sb }
    (loaded.length < 3 * (s.headerRead 2).toNat →
      exec .replayLoadRead s = .next { read with waiting := { s.waiting with
        engine := some { kind := .read,
                         addr := s.active.journalBase + BitVec.ofNat 20 (8 + loaded.length) } } }) ∧
    (3 * (s.headerRead 2).toNat ≤ loaded.length →
      ∃ t, exec .replayLoadRead s = .next t ∧ t.engine.state = .applying ∧ t.recovery.phase = .none ∧
        t.hasInHand (.home 0) (read.roleAddr (.home 0)) (read.roleValue (.home 0)) ∧
        t = { read with engine := t.engine, waiting := t.waiting, recovery := t.recovery })

/-! ### The memory port (chapter 10) -/

/-- The free memory port grants the first waiting requester of the rotation after the last granted one. The engine
place uses its grant for its access; a write of the word in hand is marked granted. That a grant commanded with the
port busy or with no request leaves the state as it was is the model's choice (log 9). -/
def Obligations.EngineIsGrantedInRotation : Prop :=
  (∀ s : State,
    let a := (s.waiting.client.a).map (fun q => (Requester.client .a, q))
    let b := (s.waiting.client.b).map (fun q => (Requester.client .b, q))
    let e := s.waiting.engine.map (fun q => (Requester.engine, q))
    (s.lastGranted = .client .a → s.nextGrant = b.or (e.or a)) ∧
    (s.lastGranted = .client .b → s.nextGrant = e.or (a.or b)) ∧
    (s.lastGranted = .engine → s.nextGrant = a.or (b.or e)) ∧
    (∀ y, s.inFlight = some y → exec .memoryPortGrant s = .next s) ∧
    (s.nextGrant = none → exec .memoryPortGrant s = .next s)) ∧
  (∀ (s : State) (q : Request), s.inFlight = none → s.nextGrant = some (.engine, q) →
    exec .memoryPortGrant s = .next { s with
      waiting := { s.waiting with engine := none }, lastGranted := .engine,
      inFlight := some { holder := .engine, kind := q.kind, addr := q.addr },
      engine := { s.engine with word := s.engine.word.map (fun w =>
        { w with granted := if q.kind = .read then w.granted else true }) } })

/-- A client's forwarded read repeats its lookup at the grant: a value found answers it and the port stays free,
otherwise the memory read begins. A forwarded read completes with the word on the lines, and changes nothing but its
port and the access. An abandoned read has the same course; its answer is lost and its port is IDLE at the end. -/
def Obligations.ForwardedReadsAreAnswered : Prop :=
  (∀ (s : State) (p : Port) (x : Addr) (c : Cycle), s.inFlight = none →
    s.nextGrant = some (.client p, { kind := .read, addr := x }) → (s.ports.get p).cycle = some c →
    let granted := (s.setClientRequest p none)
    (∀ v, s.lookup p x = some v → exec .memoryPortGrant s = .next ({ granted with
      lastGranted := .client p }.setPort p (closedPort c (some v) (s.ports.get p)))) ∧
    (s.lookup p x = none → exec .memoryPortGrant s = .next { granted with
      lastGranted := .client p, inFlight := some { holder := .client p, kind := .read, addr := x } })) ∧
  (∀ (answer : MemoryAnswer) (s : State) (p : Port) (x : Addr) (c : Cycle),
    s.inFlight = some { holder := .client p, kind := .read, addr := x } → (s.ports.get p).cycle = some c →
    exec (.forwardedReadComplete answer) s = .next ({ s with inFlight := none }.setPort p
      (closedPort c (some (match answer with
        | .sound => memRead s.memory x.toNat
        | .faulty w => w)) (s.ports.get p))))

/-- A client's forwarded write, abandoned or not, is decided again from step 6a at the grant: it is begun on the
memory port exactly when no step refuses it and nothing stages it; otherwise it takes the course the state now gives
it, and the port stays free. -/
def Obligations.WriteGrantDecidesAgain : Prop :=
  ∀ (s : State) (p : Port) (x : Addr) (d : Word) (c : Cycle), s.inFlight = none →
    s.nextGrant = some (.client p, { kind := .write d, addr := x }) → (s.ports.get p).cycle = some c →
    let granted := { s.setClientRequest p none with lastGranted := .client p }
    let ended := granted.setPort p (closedPort c none (s.ports.get p))
    let becomes (t : State) := exec .memoryPortGrant s = .next t
    let refused (name : EventName) (w : Option (Fin 16)) :=
      becomes (observe p x d (raise name (.port p) w (addrHigh x) (addrLow x) ended))
    (s.fence = .fenced → becomes { ended with absorbed := satSucc s.absorbed }) ∧
    (s.fence = .opened →
      (s.permits p (s.windowOf x) = false → refused .writeDenied (s.windowOf x)) ∧
      (s.permits p (s.windowOf x) = true →
        (s.recoveryHolds x = true → refused .conflictWrite (s.windowOf x)) ∧
        (s.recoveryHolds x = false →
          (∀ w, s.windowOf x = some w →
            (s.stageBound p w = true → becomes (observe p x d (stageWrite p w x d ended))) ∧
            (s.stageBound p w = false → s.claim w ≠ none → refused .conflictWrite (some w))) ∧
          ((∀ w, s.windowOf x = some w → s.stageBound p w = false ∧ s.claim w = none) →
            becomes { granted with inFlight := some { holder := .client p, kind := .write d, addr := x } }))))

/-- A forwarded write, abandoned or not, completes: its word alone changes in memory, a unit of the writer's lease is
spent, the recognizer observes the write, and the cycle ends. -/
def Obligations.ForwardedWriteIsWritten : Prop :=
  ∀ (answer : MemoryAnswer) (s : State) (p : Port) (x : Addr) (d : Word) (c : Cycle), MemoryLaw s →
    s.inFlight = some { holder := .client p, kind := .write d, addr := x } → (s.ports.get p).cycle = some c →
    ∃ t, exec (.forwardedWriteComplete answer) s = .next t ∧
      (answer = .sound → memRead t.memory x.toNat = d) ∧
      (∀ a : Nat, a ≠ x.toNat → memRead t.memory a = memRead s.memory a) ∧
      (∀ w, s.windowOf x = some w → t.leases = (spendUnit p w s).leases) ∧
      (s.windowOf x = none → t.leases = s.leases) ∧
      t.ports = s.ports.set p (closedPort c none (s.ports.get p)) ∧
      t = { s with
        inFlight := none, memory := t.memory, ports := t.ports, leases := t.leases, sqr := t.sqr,
        sessions := t.sessions, raised := t.raised } ∧
      t.sqr = (observe p x d s).sqr ∧ t.sessions = (observe p x d s).sessions

/-! ### The journal engine (chapter 6) -/

/-- The take: the head of the queue becomes the current transaction, numbered, in LOGGING, with word 0 of slot 0 in
hand. -/
def Obligations.EngineTakesTheHead : Prop :=
  ∀ (s : State) (p : Port) (rest : List Port) (e : Entry), s.stage = .operating → s.engine.state = .idle →
    s.commitQueue = p :: rest → s.entryAt (.port p) 0 = some e →
    ∃ t, exec .engineTake s = .next t ∧ t.commitQueue = rest ∧
      t.txns = s.txns.set p { s.txns.get p with state := .logging, number := some s.engine.nextNumber } ∧
      t.engine.state = .logging ∧ t.engine.current = some (.port p) ∧ t.engine.stop = none ∧
      t.engine.restoring = false ∧ t.engine.nextNumber = s.engine.nextNumber ∧
      t.engine.lastCleared = s.engine.lastCleared ∧
      t.hasInHand (.slot 0 0) (s.active.journalBase + 8#20) (0xE000#16 ||| addrHigh e.addr) ∧
      t = { s with commitQueue := t.commitQueue, txns := t.txns, engine := t.engine, waiting := t.waiting }

/-- The engine's words stand where Table 11-4 places them and carry what Table 6-3 gives. -/
def Obligations.JournalWordsCarryTheTransaction : Prop :=
  ∀ (s : State) (p : Port) (number : Word), s.engine.current = some (.port p) → (s.txns.get p).number = some number →
    let base := s.active.journalBase
    let entries := s.entriesOf (.port p)
    let n := BitVec.ofNat 16 (s.entryCount (.port p))
    let crc := crc16 (entries.flatMap (fun e => [0xE000#16 ||| addrHigh e.addr, addrLow e.addr, e.data]))
    (∀ i j : Nat, s.roleAddr (.slot i j) = base + BitVec.ofNat 20 (8 + 3 * i + j)) ∧
    (∀ (i : Nat) (e : Entry), s.entryAt (.port p) i = some e →
      s.roleValue (.slot i 0) = 0xE000#16 ||| addrHigh e.addr ∧ s.roleValue (.slot i 1) = addrLow e.addr ∧
      s.roleValue (.slot i 2) = e.data ∧ s.roleAddr (.home i) = e.addr ∧ s.roleValue (.home i) = e.data) ∧
    (∀ h : Nat, s.roleAddr (.header h) = base + BitVec.ofNat 20 h) ∧
    s.roleValue (.header 1) = number ∧ s.roleValue (.header 2) = n ∧ s.roleValue (.header 3) = crc ∧
    s.roleValue (.header 4) = crc16 [0xA55A#16, number, n, crc] ∧
    s.roleAddr .logged = base + 0#20 ∧ s.roleValue .logged = 0xA55A#16 ∧
    s.roleAddr .clear = base + 0#20 ∧ s.roleValue .clear = 0x5AA5#16

/-- A completed engine write leaves its word in memory and no other changed; with VERIFY it is read back, without it
the engine goes on; the first attempt of header word 1 advances the next number, also when a stop waits; then there is
no read-back, and the transaction ends or a restoring write begins. -/
def Obligations.EngineWriteCompletes : Prop :=
  ∀ (answer : MemoryAnswer) (s : State) (w : WordInHand), s.engineWriting w →
    let word := match answer with
      | .sound => w.value
      | .faulty v => v
    let number := if w.role = .header 1 ∧ w.attempt = 1 then s.engineNumber + 1#16 else s.engine.nextNumber
    let written := { s with
      memory := memWrite s.memory w.addr.toNat word, inFlight := none,
      engine := { s.engine with nextNumber := number } }
    (¬ s.stopWaits → s.active.verify = true → exec (.engineWriteComplete answer) s = .next { written with
      waiting := { s.waiting with engine := some { kind := .read, addr := w.addr } } }) ∧
    (¬ s.stopWaits → s.active.verify = false →
      exec (.engineWriteComplete answer) s = .next (wordDone w.role written)) ∧
    (∀ (p : Port) (first : StopCause), s.stopWaits → s.engine.current = some (.port p) →
      s.engine.stop = some first → exec (.engineWriteComplete answer) s = .next (written.stoppedWith p w first))

/-- A read-back that matches completes the word; one that differs brings a further attempt up to the third; the
third failure is a failed write. With a stop waiting it is not compared (log 18), and the transaction ends or a
restoring write begins. -/
def Obligations.ReadBackDecidesTheAttempt : Prop :=
  ∀ (answer : MemoryAnswer) (s : State) (w : WordInHand), s.engineVerifying w →
    let word := match answer with
      | .sound => memRead s.memory w.addr.toNat
      | .faulty v => v
    let read := { s with inFlight := none }
    let becomes (t : State) := exec (.engineReadBackComplete answer) s = .next t
    (¬ s.stopWaits →
      (word = w.value → becomes (wordDone w.role read)) ∧
      (word ≠ w.value → w.attempt < 3 → becomes { read with
        engine := { s.engine with word := some { w with attempt := w.attempt + 1 } },
        waiting := { s.waiting with engine := some { kind := .write w.value, addr := w.addr } } }) ∧
      (word ≠ w.value → 3 ≤ w.attempt → becomes (wordFailed w.role w.addr read))) ∧
    (∀ (p : Port) (first : StopCause), s.stopWaits → s.engine.current = some (.port p) →
      s.engine.stop = some first → becomes (read.stoppedWith p w first))

/-- In LOGGING the engine writes the slots in order, then header words 1 to 4, then LOGGED. The completion of LOGGED
is the commit point; the home words follow in order of position; after the last the state word is written CLEAR. A
replay does the same with its RECOVERY entries. Formatting writes header words 1 to 7 with 0 and then the state
word. -/
def Obligations.EngineWordsGoInOrder : Prop :=
  (∀ (s : State) (p : Port), s.engine.current = some (.port p) →
    let n := s.entryCount (.port p)
    (∀ i j : Nat, j < 2 → wordDone (.slot i j) s = placeWord (.slot i (j + 1)) s) ∧
    (∀ i : Nat, i + 1 < n → wordDone (.slot i 2) s = placeWord (.slot (i + 1) 0) s) ∧
    (∀ i : Nat, n ≤ i + 1 → wordDone (.slot i 2) s = placeWord (.header 1) s) ∧
    (∀ h : Nat, h < 4 → wordDone (.header h) s = placeWord (.header (h + 1)) s) ∧
    wordDone (.header 4) s = placeWord .logged s ∧
    (∀ role : WordRole, (placeWord role s).hasInHand role (s.roleAddr role) (s.roleValue role) ∧
      placeWord role s = { s with engine := (placeWord role s).engine, waiting := (placeWord role s).waiting })) ∧
  (∀ (s : State) (p : Port), s.engine.current = some (.port p) →
    let n := s.entryCount (.port p)
    let applying := { s with
      txns := s.txns.set p { s.txns.get p with state := .applying }, engine := { s.engine with state := .applying } }
    let clearing := { s with
      txns := s.txns.set p { s.txns.get p with state := .clearing }, engine := { s.engine with state := .clearing } }
    wordDone .logged s = placeWord (.home 0) applying ∧
    (∀ k : Nat, k + 1 < n → wordDone (.home k) s = placeWord (.home (k + 1)) s) ∧
    (∀ k : Nat, n ≤ k + 1 → wordDone (.home k) s = placeWord .clear clearing)) ∧
  (∀ s : State, s.engine.current = some .recovery →
    let n := s.entryCount .recovery
    let clearing := { s with engine := { s.engine with state := .clearing } }
    (∀ k : Nat, k + 1 < n → wordDone (.home k) s = placeWord (.home (k + 1)) s) ∧
    (∀ k : Nat, n ≤ k + 1 → wordDone (.home k) s = placeWord .clear clearing) ∧
    (∀ (k : Nat) (e : Entry), s.entryAt .recovery k = some e →
      s.roleAddr (.home k) = e.addr ∧ s.roleValue (.home k) = e.data)) ∧
  (∀ s : State,
    (∀ h : Nat, h < 7 → wordDone (.format h) s = placeWord (.format (h + 1)) s) ∧
    wordDone (.format 7) s = placeWord .formatClear s ∧
    (∀ h : Nat, s.roleAddr (.format h) = s.active.journalBase + BitVec.ofNat 20 h ∧
      s.roleValue (.format h) = 0#16) ∧
    (∀ role ∈ [WordRole.formatClear, .damagedClear, .clear, .restore],
      s.roleAddr role = s.active.journalBase + 0#20 ∧ s.roleValue role = 0x5AA5#16))

/-- The completed CLEAR ends the transaction COMMITTED; a restoring write ends it by its first stop, or LOG_FAILED;
a failed word of LOGGING is followed by a restoring write of CLEAR. A home write, a CLEAR write or a restoring write
that fails brings the engine to FAULTED: the transaction ends, ENGINE_FAULT gives the phase and the address, and a
QUEUED transaction ends ENGINE_FAULT. In recovery the last write of formatting, of the clearing of a damaged header
and of a replay ends recovery IDLE with the numbers of the header found and its event; one that fails ends it
FAULTED with REPLAY_FAULT, RECOVERY entries staying; then READY rises. -/
def Obligations.EngineEndsOrFaults : Prop :=
  (∀ (s : State) (p : Port) (number : Word), s.engine.current = some (.port p) →
    (s.txns.get p).number = some number →
    let idle (lastCleared : Word) : Engine :=
      { state := .idle, current := none, word := none, restoring := false, stop := none,
        nextNumber := s.engine.nextNumber, lastCleared := lastCleared }
    let ended (o : TxnOutcome) (lastCleared : Word) : State :=
      { endTxn p o s with engine := idle lastCleared, waiting := { s.waiting with engine := none } }
    wordDone .clear s = ended .committed number ∧
    (s.engine.stop = some .abort → wordDone .restore s = ended .aborted s.engine.lastCleared) ∧
    (s.engine.stop = some .fence → wordDone .restore s = ended .fenced s.engine.lastCleared) ∧
    (s.engine.stop = none → wordDone .restore s = ended .logFailed s.engine.lastCleared) ∧
    (∀ (role : WordRole) (x : Addr), (∃ i j, role = .slot i j) ∨ (∃ h, role = .header h) ∨ role = .logged →
      ∃ t, wordFailed role x s = t ∧ t.hasInHand .restore (s.active.journalBase + 0#20) 0x5AA5#16 ∧
        t.engine.restoring = true ∧ t.engine.state = s.engine.state ∧
        t = { s with engine := t.engine, waiting := t.waiting })) ∧
  (∀ (s : State) (p q : Port) (x : Addr), s.engine.current = some (.port p) → q = otherPort p →
    (s.commitQueue = [] ∨ s.commitQueue = [q]) →
    let faulted (ended : State) (phase : Word) : State :=
      let fault := raise .engineFault .part none (phase ||| addrHigh x) (addrLow x) { ended with
        engine := { ended.engine with
          state := .faulted, current := none, word := none, restoring := false, stop := none },
        waiting := { ended.waiting with engine := none } }
      if s.commitQueue = [] then fault else endTxn q .engineFault fault
    (∀ k : Nat, wordFailed (.home k) x s = faulted (endTxn p .applyFault s) 0x1000#16) ∧
    wordFailed .clear x s = faulted (endTxn p .committed s) 0x2000#16 ∧
    (s.engine.stop = none → wordFailed .restore x s = faulted (endTxn p .logFailed s) 0x0000#16) ∧
    (s.engine.stop = some .abort → wordFailed .restore x s = faulted (endTxn p .aborted s) 0x0000#16) ∧
    (s.engine.stop = some .fence → wordFailed .restore x s = faulted (endTxn p .fenced s) 0x0000#16)) ∧
  (∀ (s : State) (x : Addr),
    let failed (phase : Word) := readyRise (raise .replayFault .part none (phase ||| addrHigh x) (addrLow x)
      (s.recovered .faulted .replayFault))
    wordDone .formatClear s =
      readyRise (raise .journalFormatted .part none 0#16 (s.headerRead 0) (s.recovered .idle .formatted)) ∧
    wordDone .damagedClear s = readyRise (s.recovered .idle .damaged) ∧
    (∀ h : Nat, wordFailed (.format h) x s = failed 0x0000#16) ∧ wordFailed .formatClear x s = failed 0x0000#16 ∧
    wordFailed .damagedClear x s = failed 0x1000#16 ∧
    (s.engine.current = some .recovery →
      wordDone .clear s = readyRise (raise .replayed .part none (s.headerRead 1) (s.headerRead 2)
        { s.recovered .idle .replayed with sb := s.sb.filter (fun e => decide (e.owner ≠ .recovery)) }) ∧
      (∀ k : Nat, wordFailed (.home k) x s = failed 0x2000#16) ∧ wordFailed .clear x s = failed 0x3000#16))

/-- A stop in LOGGING withdraws a request not granted and ends the transaction, or, when a write of LOGGED was
granted, begins a restoring write; an access in flight finishes first; the first cause stays. While a restoring
write is under way a stop records its cause, if none is recorded, and changes nothing else. -/
def Obligations.StopEndsLogging : Prop :=
  ∀ (cause : StopCause) (s : State) (p : Port) (w : WordInHand), s.engine.state = .logging →
    s.engine.current = some (.port p) → s.engine.word = some w →
    let first := s.engine.stop.getD cause
    let recorded := { s with engine := { s.engine with stop := some first } }
    let withdrawn := { recorded with waiting := { s.waiting with engine := none } }
    (s.engine.restoring = true → stopEngine cause s = recorded) ∧
    (s.engine.restoring = false → s.engineInFlight = true → stopEngine cause s = withdrawn) ∧
    (s.engine.restoring = false → s.engineInFlight = false →
      stopEngine cause s = withdrawn.stoppedWith p w first)

/-! ### Client cycles (chapters 1 and 10) -/

/-- Before READY every cycle is answered 0xFFFF or absorbed and counted; in reset it is answered alike and not
counted. That a cycle commanded at a port outside IDLE changes nothing is the model's choice (log 9). -/
def Obligations.CyclesBeforeReadyAreCounted : Prop :=
  (∀ (s : State) (p : Port) (x : Addr) (d : Word) (gone : Bool), s.canTake p → s.stage ≠ .operating →
    s.stage ≠ .stopped →
    let counted := s.setPort p { s.ports.get p with
      early := if (s.ports.get p).early = 0xFFFF#16 then 0xFFFF#16 else (s.ports.get p).early + 1#16 }
    exec (.clientRead ⟨p, gone⟩ x) s = .next (counted.withEnded p .read x gone (some 0xFFFF#16)) ∧
    exec (.clientWrite ⟨p, gone⟩ x d) s = .next (counted.withEnded p (.write d) x gone none)) ∧
  (∀ (s : State) (p : Port) (x : Addr) (d : Word) (gone : Bool), s.canTake p → s.stage = .stopped →
    exec (.clientRead ⟨p, gone⟩ x) s = .next (s.withEnded p .read x gone (some 0xFFFF#16)) ∧
    exec (.clientWrite ⟨p, gone⟩ x d) s = .next (s.withEnded p (.write d) x gone none)) ∧
  (∀ (s : State) (p : Port) (x : Addr) (d : Word) (gone : Bool), (s.ports.get p).state ≠ .idle →
    exec (.clientRead ⟨p, gone⟩ x) s = .next s ∧ exec (.clientWrite ⟨p, gone⟩ x d) s = .next s)

/-- A client that removes its strobes while HELD only sets the abandoned flag; the exit from ENDING makes the port
IDLE. WAIT is high exactly in HELD, and D carries the answer of a read exactly in ENDING. The memory port's lines
show the access in flight: the chip enable of its bank, OEn for a read, WEn and the data for a write, the address
within the bank. That the two commands do nothing in another cycle state is the model's choice (log 9). -/
def Obligations.StrobesAndLinesFollowTheState : Prop :=
  (∀ (s : State) (p : Port) (c : Cycle), (s.ports.get p).state = .held → (s.ports.get p).cycle = some c →
    exec (.cycleAbandoned p) s = .next (s.setPort p { s.ports.get p with
      cycle := some { c with abandoned := true } })) ∧
  (∀ (s : State) (p : Port), (s.ports.get p).state ≠ .held → exec (.cycleAbandoned p) s = .next s) ∧
  (∀ (s : State) (p : Port), (s.ports.get p).state = .ending →
    exec (.cycleEndingExit p) s = .next (s.setPort p
      { state := .idle, cycle := none, early := (s.ports.get p).early })) ∧
  (∀ (s : State) (p : Port), (s.ports.get p).state ≠ .ending → exec (.cycleEndingExit p) s = .next s) ∧
  (∀ (s : State) (p : Port), (s.wait p = true ↔ (s.ports.get p).state = .held) ∧
    ((s.ports.get p).state ≠ .ending → s.dataOut p = none) ∧
    (∀ c, (s.ports.get p).state = .ending → (s.ports.get p).cycle = some c → s.dataOut p = c.answer)) ∧
  (∀ s : State, s.inFlight = none →
    s.ce0n = true ∧ s.ce1n = true ∧ s.oen = true ∧ s.wen = true ∧ s.memoryAddress = none ∧ s.memoryData = none) ∧
  (∀ (s : State) (y : Access), s.inFlight = some y →
    s.ce0n = decide (524288 ≤ y.addr.toNat) ∧ s.ce1n = decide (y.addr.toNat < 524288) ∧
    s.memoryAddress = some (BitVec.ofNat 19 (y.addr.toNat % 524288)) ∧
    (y.kind = .read → s.oen = false ∧ s.wen = true ∧ s.memoryData = none) ∧
    (∀ d, y.kind = .write d → s.oen = true ∧ s.wen = false ∧ s.memoryData = some d))

/-- A read after READY is answered with the fill word in the journal area, where the port mask refuses it and in a
HIDDEN window; otherwise a value found by the lookup answers it, or it waits for the memory port; the port's idle
timer is started afresh, and nothing else changes. -/
def Obligations.ReadsTakeTheirCourse : Prop :=
  ∀ (s : State) (p : Port) (x : Addr) (gone : Bool), s.canTake p → s.stage = .operating →
    (x = s.commandAddress p → s.sessions.get p = none) →
    let filled := s.inJournal x = true ∨ ∃ w : Fin 16, s.windowOf x = some w ∧
      ((s.window w).ports.get p = false ∨ (s.window w).policy = .hidden)
    let timed := restartIdle p s
    (filled → exec (.clientRead ⟨p, gone⟩ x) s = .next (timed.withEnded p .read x gone (some s.active.fill))) ∧
    (∀ v, ¬ filled → s.lookup p x = some v →
      exec (.clientRead ⟨p, gone⟩ x) s = .next (timed.withEnded p .read x gone (some v))) ∧
    (¬ filled → s.lookup p x = none → exec (.clientRead ⟨p, gone⟩ x) s = .next (timed.withWaiting p .read x gone)) ∧
    (timed = match s.sessions.get p with
      | none => s
      | some y => s.setSession p (some { y with idleTimer := .running (s.active.sessionIdle.toNat * 100) }))

/-- A lookup answers with the first that exists: the port's own entry while its transaction is staged, queued or
logged; an entry of a transaction in APPLYING or CLEARING; a RECOVERY entry; nothing. -/
def Obligations.LookupFindsTheEntryThatMayAnswer : Prop :=
  ∀ (s : State) (p : Port) (x : Addr),
    let has (o : Owner) := ∃ e ∈ s.sb, e.owner = o ∧ e.addr = x
    let returns (o : Owner) := ∃ e ∈ s.sb, e.owner = o ∧ e.addr = x ∧ s.lookup p x = some e.data
    let own := ((s.txns.get p).state = .staging ∨ (s.txns.get p).state = .overflowed ∨
      (s.txns.get p).state = .queued ∨ (s.txns.get p).state = .logging) ∧ has (.port p)
    let committed (q : Port) := (s.txns.get q).state = .applying ∨ (s.txns.get q).state = .clearing
    (own → returns (.port p)) ∧
    (¬ own → (∃ q, committed q ∧ has (.port q)) → ∃ q, committed q ∧ returns (.port q)) ∧
    (¬ own → (∀ q, committed q → ¬ has (.port q)) →
      (has .recovery → returns .recovery) ∧ (¬ has .recovery → s.lookup p x = none))

/-- A write after READY that the order of decision refuses is absorbed: RESERVED_WRITE, PORT_DENIED, the fence's
count, WRITE_DENIED or CONFLICT_WRITE, in that order; memory, the stage buffer and the leases are not touched. A
direct write that no step refuses waits for the memory port with its cycle HELD, and changes nothing else but the
idle timer. A command word is a write of that word at the port's command address, so out of session it takes this
course (log 10). -/
def Obligations.WritesAreRefusedOrForwarded : Prop :=
  (∀ (s : State) (p : Port) (x : Addr) (d : Word) (gone : Bool), s.canTake p → s.stage = .operating →
    (x = s.commandAddress p → s.sessions.get p = none) →
    let ended := (restartIdle p s).withEnded p (.write d) x gone none
    let refused (name : EventName) (w : Option (Fin 16)) : Prop :=
      exec (.clientWrite ⟨p, gone⟩ x d) s =
        .next (observe p x d (raise name (.port p) w (addrHigh x) (addrLow x) ended))
    (s.inJournal x = true → refused .reservedWrite none) ∧
    (∀ w, s.inJournal x = false → s.windowOf x = some w → (s.window w).ports.get p = false →
      refused .portDenied (some w)) ∧
    (s.inJournal x = false → s.admits p (s.windowOf x) = true →
      (s.fence = .fenced → exec (.clientWrite ⟨p, gone⟩ x d) s = .next { ended with absorbed := satSucc s.absorbed }) ∧
      (s.fence = .opened →
        ((∀ w, s.windowOf x = some w → (s.window w).policy = .readOnly ∨ (s.window w).policy = .hidden ∨
            ((s.window w).policy = .guarded ∧ s.leasedTo w p = false) → refused .writeDenied (some w)) ∧
          (s.windowOf x = none → s.active.background = .readOnly → refused .writeDenied none)) ∧
        (s.permits p (s.windowOf x) = true →
          ((∃ e ∈ s.sb, e.owner = .recovery ∧ e.addr = x) → refused .conflictWrite (s.windowOf x)) ∧
          (∀ w, s.recoveryHolds x = false → s.windowOf x = some w →
            ((s.window w).transactional = false ∨ stages (s.txns.get p).state = false) → s.claim w ≠ none →
            refused .conflictWrite (some w)))))) ∧
  (∀ (s : State) (p : Port) (x : Addr) (d : Word) (gone : Bool), s.canTake p → s.stage = .operating →
    (x = s.commandAddress p → s.sessions.get p = none) → s.inJournal x = false →
    s.admits p (s.windowOf x) = true → s.fence = .opened → s.permits p (s.windowOf x) = true →
    s.recoveryHolds x = false →
    (∀ w, s.windowOf x = some w → s.claim w = none ∧
      ((s.window w).transactional = false ∨ stages (s.txns.get p).state = false)) →
    exec (.clientWrite ⟨p, gone⟩ x d) s = .next ((restartIdle p s).withWaiting p (.write d) x gone)) ∧
  (∀ (s : State) (p : Port) (operand verb : Byte) (gone : Bool) (c : Instr),
    (c, verb) ∈ [(Instr.openLease ⟨p, gone⟩ operand, 0x01#8), (.closeLease ⟨p, gone⟩ operand, 0x02#8),
      (.beginTxn ⟨p, gone⟩ operand, 0x03#8), (.commitTxn ⟨p, gone⟩ operand, 0x04#8),
      (.abortTxn ⟨p, gone⟩ operand, 0x05#8), (.status ⟨p, gone⟩ operand, 0x06#8),
      (.nextEvent ⟨p, gone⟩ operand, 0x07#8), (.alertMask ⟨p, gone⟩ operand, 0x08#8),
      (.endSession ⟨p, gone⟩ operand, 0x09#8), (.badVerb ⟨p, gone⟩ verb operand, verb)] →
    exec c s = exec (.clientWrite ⟨p, gone⟩ (s.commandAddress p) (verb ++ operand)) s)

/-- A stage-bound write is absorbed in OVERFLOWED and, with CONFLICT_WRITE, in a window the other port claims;
otherwise it overwrites the transaction's entry, overflows the transaction, or joins as a new entry that claims the
window; what is stored spends a lease unit. -/
def Obligations.StageBoundWritesAreStaged : Prop :=
  ∀ (s : State) (p : Port) (x : Addr) (d : Word) (w : Fin 16) (gone : Bool), s.canTake p → s.stage = .operating →
    (x = s.commandAddress p → s.sessions.get p = none) → s.inJournal x = false → s.windowOf x = some w →
    (s.window w).ports.get p = true → s.fence = .opened → s.permits p (some w) = true →
    s.recoveryHolds x = false → (s.window w).transactional = true → (s.sqr.get p).state = .session →
    let ended := (restartIdle p s).withEnded p (.write d) x gone none
    let count := s.entryCount (.port p)
    let held := ∃ e ∈ s.sb, e.owner = .port p ∧ e.addr = x
    let overflowed := { ended with txns := s.txns.set p { s.txns.get p with state := .overflowed } }
    ((s.txns.get p).state = .overflowed → exec (.clientWrite ⟨p, gone⟩ x d) s = .next ended) ∧
    ((s.txns.get p).state = .staging →
      (s.claim w = some (otherPort p) → exec (.clientWrite ⟨p, gone⟩ x d) s =
        .next (raise .conflictWrite (.port p) (some w) (addrHigh x) (addrLow x) ended)) ∧
      (s.claim w ≠ some (otherPort p) →
        (held → exec (.clientWrite ⟨p, gone⟩ x d) s = .next (spendUnit p w { ended with
          sb := s.sb.map (fun e => if e.owner = .port p ∧ e.addr = x then { e with data := d } else e) })) ∧
        (¬ held → 512 ≤ s.sb.length → exec (.clientWrite ⟨p, gone⟩ x d) s =
          .next (raise .txnOverflow (.port p) (some w) 0#16 (BitVec.ofNat 16 count) overflowed)) ∧
        (¬ held → s.sb.length < 512 → s.active.journalCapacity.toNat ≤ count → exec (.clientWrite ⟨p, gone⟩ x d) s =
          .next (raise .txnOverflow (.port p) (some w) 1#16 (BitVec.ofNat 16 count) overflowed)) ∧
        (¬ held → s.sb.length < 512 → count < s.active.journalCapacity.toNat → exec (.clientWrite ⟨p, gone⟩ x d) s =
          .next (spendUnit p w { ended with
            sb := s.sb ++ [{ owner := .port p, addr := x, data := d, position := count }],
            claims := s.claims.set w.val (some p) }))))

/-! ### Recognizers (chapter 2) -/

/-- An observed write moves each enabled key to its next step, to step 1 or to 0; the lowest key it completes opens
the session; otherwise at most one break is counted, the break that reaches F brings lockout, and the step timer
runs exactly when a key advanced. -/
def Obligations.ObservedWriteMovesTheKeys : Prop :=
  ∀ (s : State) (p : Port) (x : Addr) (d : Word), (s.sqr.get p).state = .watching → s.stage = .operating →
    s.fence = .opened →
    let q := s.sqr.get p
    let next (k : Fin 4) : Bool := decide (x = (keyStep (s.key k) q.progress[k]).addr) &&
      decide (d &&& (keyStep (s.key k) q.progress[k]).mask =
        (keyStep (s.key k) q.progress[k]).value &&& (keyStep (s.key k) q.progress[k]).mask)
    let first (k : Fin 4) : Bool := decide (x = (keyStep (s.key k) 0).addr) &&
      decide (d &&& (keyStep (s.key k) 0).mask = (keyStep (s.key k) 0).value &&& (keyStep (s.key k) 0).mask)
    let enabled (k : Fin 4) : Bool := decide ((s.key k).stepCount ≠ 0#4)
    let completes (k : Fin 4) : Prop :=
      enabled k = true ∧ next k = true ∧ q.progress[k] + 1 = (s.key k).stepCount.toNat
    let breaks (k : Fin 4) : Prop := enabled k = true ∧ 2 ≤ q.progress[k] ∧ next k = false
    (∀ k : Fin 4, completes k → (∀ j : Fin 4, j < k → ¬ completes j) →
      observe p x d s = raise .sessionOpened (.port p) none 0#16 (BitVec.ofNat 16 k.val) ((s.setSqr p
        { state := .session, progress := #v[0, 0, 0, 0], stepTimer := .stopped, breaks := 0,
          lockoutTimer := .stopped }).setSession p (some
        { key := k, txn := (s.key k).txn, events := (s.key k).events,
          idleTimer := .running (s.active.sessionIdle.toNat * 100), responses := [], overrun := false,
          awaited := false }))) ∧
    ((∀ k : Fin 4, ¬ completes k) → ∃ r : Sqr,
      (∀ k : Fin 4, r.progress[k] =
        if enabled k then (if next k then q.progress[k] + 1 else if first k then 1 else 0) else 0) ∧
      r.stepTimer = (if ∃ k : Fin 4, enabled k = true ∧ (next k = true ∨ first k = true) then
        .running s.active.stepTime.toNat else .stopped) ∧
      r.state = .watching ∧ r.lockoutTimer = q.lockoutTimer ∧
      ((∀ k : Fin 4, ¬ breaks k) → r.breaks = q.breaks ∧ observe p x d s = s.setSqr p r) ∧
      ((∃ k : Fin 4, breaks k) → r.breaks = q.breaks + 1 ∧
        (q.breaks + 1 ≠ s.active.breakLimit.toNat → observe p x d s = s.setSqr p r) ∧
        (q.breaks + 1 = s.active.breakLimit.toNat →
          observe p x d s = raise .keyLockout (.port p) none 0#16 s.active.lockoutTime (s.setSqr p
            { state := .lockedOut, progress := #v[0, 0, 0, 0], stepTimer := .stopped, breaks := q.breaks + 1,
              lockoutTimer := .running (s.active.lockoutTime.toNat * 1000) }))))

/-- When the step timer expires in WATCHING all progress returns to 0 and the timer stops; one break is counted when
some progress was 2 or more, and the break that reaches F brings lockout. -/
def Obligations.StepTimerExpiryClearsProgress : Prop :=
  ∀ (s : State) (p : Port), (s.sqr.get p).state = .watching → (s.sqr.get p).stepTimer ≠ .stopped →
    let q := s.sqr.get p
    let cleared (n : Nat) : Sqr := { q with progress := #v[0, 0, 0, 0], stepTimer := .stopped, breaks := n }
    ((∀ k : Fin 4, q.progress[k] < 2) →
      exec (.stepTimerExpiry p) s = .next (s.setSqr p (cleared q.breaks))) ∧
    ((∃ k : Fin 4, 2 ≤ q.progress[k]) →
      (q.breaks + 1 ≠ s.active.breakLimit.toNat →
        exec (.stepTimerExpiry p) s = .next (s.setSqr p (cleared (q.breaks + 1)))) ∧
      (q.breaks + 1 = s.active.breakLimit.toNat →
        exec (.stepTimerExpiry p) s =
          .next (raise .keyLockout (.port p) none 1#16 s.active.lockoutTime (s.setSqr p
            { state := .lockedOut, progress := #v[0, 0, 0, 0], stepTimer := .stopped, breaks := q.breaks + 1,
              lockoutTimer := .running (s.active.lockoutTime.toNat * 1000) }))))

/-- When the lockout timer expires the recognizer is WATCHING again, all counts 0, and KEY_LOCKOUT_END is raised. -/
def Obligations.LockoutEnds : Prop :=
  ∀ (s : State) (p : Port), (s.sqr.get p).state = .lockedOut → (s.sqr.get p).lockoutTimer ≠ .stopped →
    exec (.lockoutTimerExpiry p) s = .next (raise .keyLockoutEnd (.port p) none 0#16 0#16 (s.setSqr p
      { state := .watching, progress := #v[0, 0, 0, 0], stepTimer := .stopped, breaks := 0,
        lockoutTimer := .stopped }))

/-! ### The command address (chapter 3) -/

/-- A read of the command address in session takes the oldest response word, or returns the status word and clears
the overrun flag; out of session it is a read of memory. -/
def Obligations.CommandAddressReadsTheQueue : Prop :=
  (∀ (s : State) (p : Port) (y : Session) (gone : Bool), s.canTake p → s.stage = .operating →
    s.sessions.get p = some y →
    let x := s.commandAddress p
    let timed := { y with idleTimer := .running (s.active.sessionIdle.toNat * 100) }
    (∀ w rest, y.responses = w :: rest → exec (.commandAddressRead ⟨p, gone⟩) s =
      .next ((s.withEnded p .read x gone (some w)).setSession p (some { timed with responses := rest }))) ∧
    (y.responses = [] → ∃ w : Word,
      exec (.commandAddressRead ⟨p, gone⟩) s =
        .next ((s.withEnded p .read x gone (some w)).setSession p (some { timed with overrun := false })) ∧
      w.extractLsb' 8 8 = 0x80#8 + BitVec.ofNat 8 y.key.val ∧ w.getLsbD 7 = y.overrun ∧
      w.getLsbD 6 = s.alert p ∧ w.extractLsb' 3 3 = 0#3 ∧
      w.extractLsb' 0 3 = txnStateCode (s.txns.get p).state)) ∧
  (∀ (s : State) (p : Port) (gone : Bool), exec (.commandAddressRead ⟨p, gone⟩) s =
    exec (.clientRead ⟨p, gone⟩ (s.commandAddress p)) s)

/-- OPEN answers with the first refusal that applies and changes nothing else, or opens the lease. -/
def Obligations.OpenAnswersAndLeases : Prop :=
  ∀ (s : State) (p : Port) (y : Session) (operand : Byte) (gone : Bool), s.takesVerb p y 1 →
    let reply (code : Byte) := s.replied p 0x01#8 operand gone y [0x01#8 ++ code]
    let answers (t : State) := exec (.openLease ⟨p, gone⟩ operand) s = .next t
    (15 < operand.toNat → answers (reply 0x06#8)) ∧
    (∀ w : Fin 16, operand.toNat = w.val →
      ((s.window w).enable = false → answers (reply 0x06#8)) ∧
      ((s.window w).enable = true →
        let allowed := (s.window w).policy = .guarded ∧ (s.window w).keyMask.getLsbD y.key.val = true ∧
          (s.window w).ports.get p = true
        (¬ allowed → answers (reply 0x02#8)) ∧
        (allowed →
          (s.leasedTo w p = true → answers (reply 0x05#8)) ∧
          (s.leasedTo w p = false →
            (s.leasedTo w (otherPort p) = true ∨ s.claim w = some (otherPort p) → answers (reply 0x03#8)) ∧
            (s.leasedTo w (otherPort p) = false → s.claim w ≠ some (otherPort p) →
              (∀ ms, s.lease w = .holdoff ms → answers (reply 0x04#8)) ∧
              (s.lease w = .closed → answers (raise .leaseOpened (.port p) (some w) (BitVec.ofNat 16 y.key.val)
                (s.window w).lifetime ((reply 0x00#8).setLease w (.leased
                  { holder := p, key := y.key, count := 0#16
                    budget := if (s.window w).budget = 0#16 then none else some (s.window w).budget
                    lifetime := if (s.window w).lifetime = 0#16 then .stopped
                      else .running ((s.window w).lifetime.toNat * 10) })))))))))

/-- CLOSE answers BADARG, NONE or OK; OK ends the port's lease with cause CLOSE, and no other command state, staged
entry or claim changes. -/
def Obligations.CloseEndsTheLease : Prop :=
  ∀ (s : State) (p : Port) (y : Session) (operand : Byte) (gone : Bool), s.takesVerb p y 1 →
    let reply (code : Byte) := s.replied p 0x02#8 operand gone y [0x02#8 ++ code]
    let answers (t : State) := exec (.closeLease ⟨p, gone⟩ operand) s = .next t
    (15 < operand.toNat → answers (reply 0x06#8)) ∧
    (∀ w : Fin 16, operand.toNat = w.val →
      ((s.window w).enable = false → answers (reply 0x06#8)) ∧
      ((s.window w).enable = true →
        (s.leasedTo w p = false → answers (reply 0x08#8)) ∧
        (∀ r, s.lease w = .leased r → r.holder = p →
          answers (raise .leaseEnded (.port p) (some w) 0#16 r.count ((reply 0x00#8).setLease w
            (if (s.window w).holdoff = 0#12 then .closed else .holdoff ((s.window w).holdoff.toNat * 100)))))))

/-- BEGIN answers with the first refusal that applies, or creates the transaction in STAGING, linked to the session,
and raises TXN_BEGUN with the free entries. -/
def Obligations.BeginCreatesTheTransaction : Prop :=
  ∀ (s : State) (p : Port) (y : Session) (operand : Byte) (gone : Bool), s.takesVerb p y 1 →
    let reply (code : Byte) := s.replied p 0x03#8 operand gone y [0x03#8 ++ code]
    let answers (t : State) := exec (.beginTxn ⟨p, gone⟩ operand) s = .next t
    (y.txn = false → answers (reply 0x02#8)) ∧
    (y.txn = true → s.active.journalCapacity = 0#16 → answers (reply 0x08#8)) ∧
    (y.txn = true → s.active.journalCapacity ≠ 0#16 →
      ((s.txns.get p).state ≠ .none → answers (reply 0x05#8)) ∧
      ((s.txns.get p).state = .none →
        (s.engine.state = .faulted → answers (reply 0x0B#8)) ∧
        (s.engine.state ≠ .faulted → answers (raise .txnBegun (.port p) none 0#16
          (BitVec.ofNat 16 (512 - s.sb.length))
          ((reply 0x00#8).setTxn p { state := .staging, number := none, linked := true })))))

/-- COMMIT answers with the first refusal that applies; an empty transaction ends EMPTY; any other joins the commit
queue as QUEUED with the session awaiting its outcome, and of two in the queue of an IDLE engine the older is taken.
-/
def Obligations.CommitAcceptsTheTransaction : Prop :=
  ∀ (s : State) (p : Port) (y : Session) (operand : Byte) (gone : Bool), s.takesVerb p y 1 →
    let reply (code : Byte) := s.replied p 0x04#8 operand gone y [0x04#8 ++ code]
    let answers (t : State) := exec (.commitTxn ⟨p, gone⟩ operand) s = .next t
    let accepted := ({ reply 0x01#8 with commitQueue := s.commitQueue ++ [p] }.setTxn p
      { s.txns.get p with state := .queued }).setSession p (some { y with
        idleTimer := .running (s.active.sessionIdle.toNat * 100), responses := y.responses ++ [0x0401#16],
        awaited := true })
    (y.txn = false → answers (reply 0x02#8)) ∧
    (y.txn = true →
      ((s.txns.get p).state = .none → answers (reply 0x08#8)) ∧
      ((s.txns.get p).state = .overflowed → answers (reply 0x09#8)) ∧
      ((s.txns.get p).state = .queued ∨ inEngine (s.txns.get p).state = true → answers (reply 0x05#8)) ∧
      ((s.txns.get p).state = .staging →
        (s.engine.state = .faulted → answers (reply 0x0B#8)) ∧
        (s.engine.state ≠ .faulted →
          (s.entryCount (.port p) = 0 → answers (endTxn p .empty (reply 0x00#8))) ∧
          (s.entryCount (.port p) ≠ 0 →
            (s.commitQueue = [] → answers accepted) ∧
            (s.engine.state ≠ .idle → answers accepted) ∧
            (s.engine.state = .idle → s.commitQueue ≠ [] → answers (engineTake accepted))))))

/-- ABORT answers with the first refusal that applies, or ends the transaction ABORTED: at once before LOGGING, by a
stop of the engine in LOGGING. -/
def Obligations.AbortEndsTheTransaction : Prop :=
  ∀ (s : State) (p : Port) (y : Session) (operand : Byte) (gone : Bool), s.takesVerb p y 1 →
    let reply (code : Byte) := s.replied p 0x05#8 operand gone y [0x05#8 ++ code]
    let answers (t : State) := exec (.abortTxn ⟨p, gone⟩ operand) s = .next t
    (y.txn = false → answers (reply 0x02#8)) ∧
    (y.txn = true →
      ((s.txns.get p).state = .none → answers (reply 0x08#8)) ∧
      ((s.txns.get p).state = .applying ∨ (s.txns.get p).state = .clearing → answers (reply 0x0A#8)) ∧
      ((s.txns.get p).state = .staging ∨ (s.txns.get p).state = .overflowed ∨ (s.txns.get p).state = .queued →
        answers (endTxn p .aborted (reply 0x00#8))) ∧
      ((s.txns.get p).state = .logging → answers (stopEngine .abort (reply 0x00#8))))

/-- STATUS pushes OK and the four status words, and changes nothing else. -/
def Obligations.StatusReportsFourWords : Prop :=
  ∀ (s : State) (p : Port) (y : Session) (operand : Byte) (gone : Bool), s.takesVerb p y 5 →
    ∃ w1 w3 w4 : Word,
      exec (.status ⟨p, gone⟩ operand) s =
        .next (s.replied p 0x06#8 operand gone y [0x0600#16, w1, s.engine.lastCleared, w3, w4]) ∧
      w1.extractLsb' 13 3 = txnStateCode (s.txns.get p).state ∧ w1.extractLsb' 10 3 = 0#3 ∧
      w1.extractLsb' 0 10 = BitVec.ofNat 10 (s.entryCount (.port p)) ∧
      (∀ w : Fin 16, w3.getLsbD w.val = s.leasedTo w p) ∧
      w4.extractLsb' 13 3 = engineStateCode s.engine.state ∧ w4.extractLsb' 6 7 = 0#7 ∧
      w4.extractLsb' 0 6 = BitVec.ofNat 6 (s.records.countP (fun r => r.notice.audience.get p))

/-- NEXT_EVENT is refused without the EVENTS right or for a port that is no reader; otherwise the oldest record for
the port is delivered in five words, the port leaves its audience, and the record leaves when no port remains. -/
def Obligations.NextEventDeliversTheOldest : Prop :=
  ∀ (s : State) (p : Port) (y : Session) (operand : Byte) (gone : Bool), s.takesVerb p y 6 →
    let reply (code : Byte) (more : List Word) := s.replied p 0x07#8 operand gone y ((0x07#8 ++ code) :: more)
    let answers (t : State) := exec (.nextEvent ⟨p, gone⟩ operand) s = .next t
    (y.events = false ∨ s.reader p = false → answers (reply 0x02#8 [])) ∧
    (y.events = true → s.reader p = true →
      ((∀ r ∈ s.records, r.notice.audience.get p = false) → answers (reply 0x08#8 [])) ∧
      (∀ (before after : List EventRecord) (r : EventRecord), s.records = before ++ r :: after →
        (∀ o ∈ before, o.notice.audience.get p = false) → r.notice.audience.get p = true →
        answers { reply 0x00#8 [r.seq, r.time, descriptorWord r.notice, r.notice.hi, r.notice.lo] with
          records := before ++ (if r.notice.audience.get (otherPort p) then
            [{ r with notice := { r.notice with audience := r.notice.audience.set p false } }] else []) ++ after }))

/-- ALERT_MASK sets the port's alert mask to its operand and answers OK. A command whose verb byte is none of 0x01
to 0x09 is answered BADVERB, echoing the byte, and changes nothing else. -/
def Obligations.MaskIsSetAndUnknownVerbsAnswered : Prop :=
  (∀ (s : State) (p : Port) (y : Session) (operand : Byte) (gone : Bool), s.takesVerb p y 1 →
    exec (.alertMask ⟨p, gone⟩ operand) s =
      .next ((s.replied p 0x08#8 operand gone y [0x0800#16]).setAlertMask p operand)) ∧
  (∀ (s : State) (p : Port) (y : Session) (verb operand : Byte) (gone : Bool), s.takesVerb p y 1 →
    (Instr.badVerb ⟨p, gone⟩ verb operand).wellFormed = true →
    exec (.badVerb ⟨p, gone⟩ verb operand) s = .next (s.replied p verb operand gone y [verb ++ 0x07#8]))

/-- A command that finds too few free words is not performed: the overrun flag is set and COMMAND_OVERRUN carries
the command word and the free count. -/
def Obligations.FullQueueRefusesTheCommand : Prop :=
  ∀ (s : State) (p : Port) (y : Session) (operand unknown : Byte) (gone : Bool) (c : Instr) (verb : Byte) (need : Nat),
    s.canTake p → s.stage = .operating → s.sessions.get p = some y → freeWords y < need →
    (Instr.badVerb ⟨p, gone⟩ unknown operand).wellFormed = true →
    (c, verb, need) ∈ [(Instr.openLease ⟨p, gone⟩ operand, 0x01#8, 1), (.closeLease ⟨p, gone⟩ operand, 0x02#8, 1),
      (.beginTxn ⟨p, gone⟩ operand, 0x03#8, 1), (.commitTxn ⟨p, gone⟩ operand, 0x04#8, 1),
      (.abortTxn ⟨p, gone⟩ operand, 0x05#8, 1), (.status ⟨p, gone⟩ operand, 0x06#8, 5),
      (.nextEvent ⟨p, gone⟩ operand, 0x07#8, 6), (.alertMask ⟨p, gone⟩ operand, 0x08#8, 1),
      (.badVerb ⟨p, gone⟩ unknown operand, unknown, 1)] →
    exec c s = .next (raise .commandOverrun (.port p) none (verb ++ operand)
      (BitVec.ofNat 16 (8 - y.responses.length))
      ((s.replied p verb operand gone y []).setSession p (some { y with
        idleTimer := .running (s.active.sessionIdle.toNat * 100), overrun := true })))

/-- END, and the expiry of the idle timer, end the session: leases in ascending order, the staged transaction, the
record, the recognizer, with their events in that order. That an expiry for a port without a session changes nothing
is the model's choice (log 9). -/
def Obligations.EndAndIdleExpiryEndTheSession : Prop :=
  (∀ (s : State) (p : Port) (y : Session) (operand : Byte) (gone : Bool), s.takesVerb p y 0 →
    ∃ t, exec (.endSession ⟨p, gone⟩ operand) s = .next t ∧ SessionEnded s t p .ended ∧
      t.ports = s.ports.set p (endedPort (.write (0x09#8 ++ operand)) (s.commandAddress p) gone none (s.ports.get p))) ∧
  (∀ (s : State) (p : Port) (y : Session), s.sessions.get p = some y →
    ∃ t, exec (.idleTimerExpiry p) s = .next t ∧ SessionEnded s t p .idle ∧ t.ports = s.ports) ∧
  (∀ (s : State) (p : Port), s.sessions.get p = none → exec (.idleTimerExpiry p) s = .next s)

/-! ### Leases and the end of a transaction (chapters 4 and 5) -/

/-- A running lifetime timer's expiry ends the lease with cause LIFETIME; a holdoff timer's expiry returns the
window to CLOSED with no event; a unit spent by the holder counts, and the last of the budget ends the lease with
cause BUDGET; a write by another than the holder spends nothing. That an expiry with no such timer running changes
nothing is the model's choice (log 9). -/
def Obligations.LeasesSpendAndEnd : Prop :=
  (∀ (s : State) (w : Fin 16) (r : LeaseRecord),
    let after := if (s.window w).holdoff = 0#12 then Lease.closed else .holdoff ((s.window w).holdoff.toNat * 100)
    s.lease w = .leased r →
      (r.lifetime ≠ .stopped → exec (.lifetimeTimerExpiry w) s =
        .next (raise .leaseEnded (.port r.holder) (some w) 1#16 r.count (s.setLease w after))) ∧
      (r.lifetime = .stopped → exec (.lifetimeTimerExpiry w) s = .next s) ∧
      (∀ p : Port,
        let count := if r.count = 0xFFFF#16 then 0xFFFF#16 else r.count + 1#16
        (r.holder ≠ p → spendUnit p w s = s) ∧
        (r.holder = p → r.budget = none →
          spendUnit p w s = s.setLease w (.leased { r with count := count })) ∧
        (∀ b, r.holder = p → r.budget = some b → b ≠ 1#16 →
          spendUnit p w s = s.setLease w (.leased { r with count := count, budget := some (b - 1#16) })) ∧
        (r.holder = p → r.budget = some 1#16 →
          spendUnit p w s = raise .leaseEnded (.port p) (some w) 2#16 count (s.setLease w after)))) ∧
  (∀ (s : State) (w : Fin 16) (ms : Nat), s.lease w = .holdoff ms →
    exec (.holdoffTimerExpiry w) s = .next (s.setLease w .closed) ∧
    exec (.lifetimeTimerExpiry w) s = .next s ∧ ∀ p, spendUnit p w s = s) ∧
  (∀ (s : State) (w : Fin 16), s.lease w = .closed →
    exec (.holdoffTimerExpiry w) s = .next s ∧ exec (.lifetimeTimerExpiry w) s = .next s ∧
    ∀ p, spendUnit p w s = s)

/-- The end of a transaction: its entries leave (or, at APPLY_FAULT, become RECOVERY entries), its claims are
released, it leaves the commit queue, its record is NONE, TXN_OUTCOME is raised, and for an accepted commit the
session that awaits it gets the outcome word, or the overrun flag when its queue is full. -/
def Obligations.TransactionsEndWhole : Prop :=
  ∀ (s : State) (p : Port) (o : TxnOutcome),
    let t := endTxn p o s
    let number := (s.txns.get p).number
    let accepted := (s.txns.get p).state = .queued ∨ inEngine (s.txns.get p).state = true
    (o ≠ .applyFault → t.sb = s.sb.filter (fun e => decide (e.owner ≠ .port p))) ∧
    (o = .applyFault → t.sb = s.sb.map (fun e => if e.owner = .port p then { e with owner := .recovery } else e)) ∧
    (∀ w : Fin 16, t.claim w = if s.claim w = some p then none else s.claim w) ∧
    t.commitQueue = s.commitQueue.filter (fun q => decide (q ≠ p)) ∧
    t.txns = s.txns.set p { state := .none, number := none, linked := false } ∧
    t.raised = (raise .txnOutcome (.port p) none
      (outcomeDetail o number.isSome (s.entryCount (.port p))) (number.getD 0#16) s).raised ∧
    (∀ y, accepted → (s.txns.get p).linked = true → s.sessions.get p = some y → y.awaited = true →
      t.sessions = s.sessions.set p (some (if y.responses.length < 8
        then { y with awaited := false, responses := y.responses ++ [0xC0#8 ++ outcomeCode o] }
        else { y with awaited := false, overrun := true }))) ∧
    (¬ accepted ∨ (s.txns.get p).linked = false ∨ s.sessions.get p = none ∨
      (∃ y, s.sessions.get p = some y ∧ y.awaited = false) → t.sessions = s.sessions) ∧
    t = { s with
      sb := t.sb, claims := t.claims, commitQueue := t.commitQueue, txns := t.txns, raised := t.raised,
      sessions := t.sessions }

/-! ### The power fence (chapter 8) -/

/-- A fall of PWRGOOD after READY fences the part: FENCE_ENTERED first, then every session, lease and uncommitted
transaction ended with their events in order, recognizers cleared, a transaction in LOGGING stopped; HOLDOFF
windows, RECOVERY entries, a transaction past the commit point, memory, the records, the masks, the ports and the
profile are left as they were. Before READY only the level changes. -/
def Obligations.PwrgoodFallFencesThePart : Prop :=
  (∀ s : State, s.stage = .operating → s.fence = .opened → SessionLaw s → LeaseLaw s → CommitLaw s →
    ∃ t, exec .pwrgoodFall s = .next t ∧ FenceEntered s t) ∧
  (∀ s : State, s.stage ≠ .operating → exec .pwrgoodFall s = .next { s with pwrgood := false })

/-- A rise of PWRGOOD while FENCED raises FENCE_LEFT with the absorbed-write count, opens the fence and clears the
count; a change before READY changes the level alone. -/
def Obligations.PwrgoodRiseOpensTheFence : Prop :=
  (∀ s : State, s.fence = .fenced → exec .pwrgoodRise s =
    .next { raise .fenceLeft .part none 0#16 s.absorbed s with
      pwrgood := true, fence := .opened, absorbed := 0#16 }) ∧
  (∀ s : State, s.fence = .opened → exec .pwrgoodRise s = .next { s with pwrgood := true }) ∧
  (∀ (level : Bool) (s : State), s.stage ≠ .operating →
    exec (.pwrgoodChangeInStartUp level) s = .next { s with pwrgood := level })

/-! ### Events and alert lines (chapter 9) -/

/-- The event queue takes the oldest raised event: counted by an untaken marker, lost behind a taken one, turned
into a marker at 31 records, or stored with the sequence counter and the time base. -/
def Obligations.ArrivalsAreStoredOrCounted : Prop :=
  ∀ (s : State) (n : Notice) (rest : List Notice), s.raised = n :: rest →
    let left := { s with raised := rest }
    let stored (m : Notice) : State := { left with
      records := s.records ++ [{ seq := s.seqCounter, time := s.timeBase, notice := m }]
      seqCounter := s.seqCounter + 1#16 }
    ((∃ r ∈ s.records, r.notice.name = .overflow) → exec .eventArrival s = .next { left with
      records := s.records.map (fun r =>
        if r.notice.name = .overflow ∧ r.notice.audience = s.active.readers then
          { r with notice := { r.notice with
            lo := if r.notice.lo = 0xFFFF#16 then 0xFFFF#16 else r.notice.lo + 1#16 } }
        else r) }) ∧
    ((∀ r ∈ s.records, r.notice.name ≠ .overflow) →
      (s.records.length ≤ 30 → exec .eventArrival s = .next (stored n)) ∧
      (31 ≤ s.records.length → exec .eventArrival s = .next (stored
        { name := .overflow, who := .part, window := none, hi := 0#16, lo := 1#16,
          audience := s.active.readers })))

/-- An event is held for the readers among the ports it concerns, or, when there are none, is lost at once; a port's
ALERT line is high exactly while a record held for the port has a class that the port's mask admits. -/
def Obligations.EventsReachTheReadersConcerned : Prop :=
  (∀ (s : State) (name : EventName) (who : Concerned) (w : Option (Fin 16)) (hi lo : Word),
    let a := decide (who = .port .a ∨ who = .part) && s.active.readers.a
    let b := decide (who = .port .b ∨ who = .part) && s.active.readers.b
    ((a || b) = false → raise name who w hi lo s = s) ∧
    ((a || b) = true → raise name who w hi lo s = { s with raised := s.raised ++
      [{ name := name, who := who, window := w, hi := hi, lo := lo, audience := { a := a, b := b } }] })) ∧
  (∀ (s : State) (p : Port), s.alert p = true ↔ s.resetn = true ∧ ∃ r ∈ s.records,
    r.notice.audience.get p = true ∧ (s.alertMask.get p).getLsbD (eventClass r.notice.name).toNat = true)
end

