-- ==== Sys2Proof/Laws/State.lean ====
section
/-! SUPPORT. What each named update of the state leaves in each field, and the values of ports. -/

namespace Sys2Proof.Machine

variable (s : State)

/-! ### Values of ports -/

@[simp] theorem PerPort_get_set_same {α : Type} (v : PerPort α) (p : Port) (x : α) : (v.set p x).get p = x := by
  cases p <;> rfl

@[simp] theorem PerPort_get_set_other {α : Type} (v : PerPort α) (p : Port) (x : α) :
    (v.set p x).get (otherPort p) = v.get (otherPort p) := by
  cases p <;> rfl

theorem PerPort_get_set {α : Type} (v : PerPort α) (p q : Port) (x : α) :
    (v.set p x).get q = if q = p then x else v.get q := by
  cases p <;> cases q <;> rfl

@[simp] theorem PerPort_set_set {α : Type} (v : PerPort α) (p : Port) (x y : α) :
    (v.set p x).set p y = v.set p y := by
  cases p <;> rfl

@[simp] theorem PerPort_set_get {α : Type} (v : PerPort α) (p : Port) : v.set p (v.get p) = v := by
  cases p <;> rfl

@[simp] theorem otherPort_otherPort (p : Port) : otherPort (otherPort p) = p := by cases p <;> rfl

theorem otherPort_ne (p : Port) : otherPort p ≠ p := by cases p <;> decide

/-! ### setPort -/

@[simp] theorem setPort_supply (p : Port) (c : ClientPort) : (s.setPort p c).supply = s.supply := rfl
@[simp] theorem setPort_resetn (p : Port) (c : ClientPort) : (s.setPort p c).resetn = s.resetn := rfl
@[simp] theorem setPort_pwrgood (p : Port) (c : ClientPort) : (s.setPort p c).pwrgood = s.pwrgood := rfl
@[simp] theorem setPort_pbyp (p : Port) (c : ClientPort) : (s.setPort p c).pbyp = s.pbyp := rfl
@[simp] theorem setPort_stage (p : Port) (c : ClientPort) : (s.setPort p c).stage = s.stage := rfl
@[simp] theorem setPort_profile (p : Port) (c : ClientPort) : (s.setPort p c).profile = s.profile := rfl
@[simp] theorem setPort_profileStatus (p : Port) (c : ClientPort) :
    (s.setPort p c).profileStatus = s.profileStatus := rfl
@[simp] theorem setPort_candidate (p : Port) (c : ClientPort) : (s.setPort p c).candidate = s.candidate := rfl
@[simp] theorem setPort_recovery (p : Port) (c : ClientPort) : (s.setPort p c).recovery = s.recovery := rfl
@[simp] theorem setPort_ports (p : Port) (c : ClientPort) : (s.setPort p c).ports = s.ports.set p c := rfl
@[simp] theorem setPort_sqr (p : Port) (c : ClientPort) : (s.setPort p c).sqr = s.sqr := rfl
@[simp] theorem setPort_sessions (p : Port) (c : ClientPort) : (s.setPort p c).sessions = s.sessions := rfl
@[simp] theorem setPort_alertMask (p : Port) (c : ClientPort) : (s.setPort p c).alertMask = s.alertMask := rfl
@[simp] theorem setPort_leases (p : Port) (c : ClientPort) : (s.setPort p c).leases = s.leases := rfl
@[simp] theorem setPort_txns (p : Port) (c : ClientPort) : (s.setPort p c).txns = s.txns := rfl
@[simp] theorem setPort_claims (p : Port) (c : ClientPort) : (s.setPort p c).claims = s.claims := rfl
@[simp] theorem setPort_commitQueue (p : Port) (c : ClientPort) : (s.setPort p c).commitQueue = s.commitQueue := rfl
@[simp] theorem setPort_sb (p : Port) (c : ClientPort) : (s.setPort p c).sb = s.sb := rfl
@[simp] theorem setPort_engine (p : Port) (c : ClientPort) : (s.setPort p c).engine = s.engine := rfl
@[simp] theorem setPort_waiting (p : Port) (c : ClientPort) : (s.setPort p c).waiting = s.waiting := rfl
@[simp] theorem setPort_lastGranted (p : Port) (c : ClientPort) : (s.setPort p c).lastGranted = s.lastGranted := rfl
@[simp] theorem setPort_inFlight (p : Port) (c : ClientPort) : (s.setPort p c).inFlight = s.inFlight := rfl
@[simp] theorem setPort_fence (p : Port) (c : ClientPort) : (s.setPort p c).fence = s.fence := rfl
@[simp] theorem setPort_absorbed (p : Port) (c : ClientPort) : (s.setPort p c).absorbed = s.absorbed := rfl
@[simp] theorem setPort_records (p : Port) (c : ClientPort) : (s.setPort p c).records = s.records := rfl
@[simp] theorem setPort_seqCounter (p : Port) (c : ClientPort) : (s.setPort p c).seqCounter = s.seqCounter := rfl
@[simp] theorem setPort_timeBase (p : Port) (c : ClientPort) : (s.setPort p c).timeBase = s.timeBase := rfl
@[simp] theorem setPort_raised (p : Port) (c : ClientPort) : (s.setPort p c).raised = s.raised := rfl
@[simp] theorem setPort_memory (p : Port) (c : ClientPort) : (s.setPort p c).memory = s.memory := rfl
@[simp] theorem setPort_pending (p : Port) (c : ClientPort) : (s.setPort p c).pending = s.pending := rfl

/-! ### setSqr -/

@[simp] theorem setSqr_supply (p : Port) (q : Sqr) : (s.setSqr p q).supply = s.supply := rfl
@[simp] theorem setSqr_resetn (p : Port) (q : Sqr) : (s.setSqr p q).resetn = s.resetn := rfl
@[simp] theorem setSqr_pwrgood (p : Port) (q : Sqr) : (s.setSqr p q).pwrgood = s.pwrgood := rfl
@[simp] theorem setSqr_pbyp (p : Port) (q : Sqr) : (s.setSqr p q).pbyp = s.pbyp := rfl
@[simp] theorem setSqr_stage (p : Port) (q : Sqr) : (s.setSqr p q).stage = s.stage := rfl
@[simp] theorem setSqr_profile (p : Port) (q : Sqr) : (s.setSqr p q).profile = s.profile := rfl
@[simp] theorem setSqr_profileStatus (p : Port) (q : Sqr) : (s.setSqr p q).profileStatus = s.profileStatus := rfl
@[simp] theorem setSqr_candidate (p : Port) (q : Sqr) : (s.setSqr p q).candidate = s.candidate := rfl
@[simp] theorem setSqr_recovery (p : Port) (q : Sqr) : (s.setSqr p q).recovery = s.recovery := rfl
@[simp] theorem setSqr_ports (p : Port) (q : Sqr) : (s.setSqr p q).ports = s.ports := rfl
@[simp] theorem setSqr_sqr (p : Port) (q : Sqr) : (s.setSqr p q).sqr = s.sqr.set p q := rfl
@[simp] theorem setSqr_sessions (p : Port) (q : Sqr) : (s.setSqr p q).sessions = s.sessions := rfl
@[simp] theorem setSqr_alertMask (p : Port) (q : Sqr) : (s.setSqr p q).alertMask = s.alertMask := rfl
@[simp] theorem setSqr_leases (p : Port) (q : Sqr) : (s.setSqr p q).leases = s.leases := rfl
@[simp] theorem setSqr_txns (p : Port) (q : Sqr) : (s.setSqr p q).txns = s.txns := rfl
@[simp] theorem setSqr_claims (p : Port) (q : Sqr) : (s.setSqr p q).claims = s.claims := rfl
@[simp] theorem setSqr_commitQueue (p : Port) (q : Sqr) : (s.setSqr p q).commitQueue = s.commitQueue := rfl
@[simp] theorem setSqr_sb (p : Port) (q : Sqr) : (s.setSqr p q).sb = s.sb := rfl
@[simp] theorem setSqr_engine (p : Port) (q : Sqr) : (s.setSqr p q).engine = s.engine := rfl
@[simp] theorem setSqr_waiting (p : Port) (q : Sqr) : (s.setSqr p q).waiting = s.waiting := rfl
@[simp] theorem setSqr_lastGranted (p : Port) (q : Sqr) : (s.setSqr p q).lastGranted = s.lastGranted := rfl
@[simp] theorem setSqr_inFlight (p : Port) (q : Sqr) : (s.setSqr p q).inFlight = s.inFlight := rfl
@[simp] theorem setSqr_fence (p : Port) (q : Sqr) : (s.setSqr p q).fence = s.fence := rfl
@[simp] theorem setSqr_absorbed (p : Port) (q : Sqr) : (s.setSqr p q).absorbed = s.absorbed := rfl
@[simp] theorem setSqr_records (p : Port) (q : Sqr) : (s.setSqr p q).records = s.records := rfl
@[simp] theorem setSqr_seqCounter (p : Port) (q : Sqr) : (s.setSqr p q).seqCounter = s.seqCounter := rfl
@[simp] theorem setSqr_timeBase (p : Port) (q : Sqr) : (s.setSqr p q).timeBase = s.timeBase := rfl
@[simp] theorem setSqr_raised (p : Port) (q : Sqr) : (s.setSqr p q).raised = s.raised := rfl
@[simp] theorem setSqr_memory (p : Port) (q : Sqr) : (s.setSqr p q).memory = s.memory := rfl
@[simp] theorem setSqr_pending (p : Port) (q : Sqr) : (s.setSqr p q).pending = s.pending := rfl

/-! ### setSession -/

@[simp] theorem setSession_supply (p : Port) (x : Option Session) : (s.setSession p x).supply = s.supply := rfl
@[simp] theorem setSession_resetn (p : Port) (x : Option Session) : (s.setSession p x).resetn = s.resetn := rfl
@[simp] theorem setSession_pwrgood (p : Port) (x : Option Session) : (s.setSession p x).pwrgood = s.pwrgood := rfl
@[simp] theorem setSession_pbyp (p : Port) (x : Option Session) : (s.setSession p x).pbyp = s.pbyp := rfl
@[simp] theorem setSession_stage (p : Port) (x : Option Session) : (s.setSession p x).stage = s.stage := rfl
@[simp] theorem setSession_profile (p : Port) (x : Option Session) : (s.setSession p x).profile = s.profile := rfl
@[simp] theorem setSession_profileStatus (p : Port) (x : Option Session) :
    (s.setSession p x).profileStatus = s.profileStatus := rfl
@[simp] theorem setSession_candidate (p : Port) (x : Option Session) :
    (s.setSession p x).candidate = s.candidate := rfl
@[simp] theorem setSession_recovery (p : Port) (x : Option Session) : (s.setSession p x).recovery = s.recovery := rfl
@[simp] theorem setSession_ports (p : Port) (x : Option Session) : (s.setSession p x).ports = s.ports := rfl
@[simp] theorem setSession_sqr (p : Port) (x : Option Session) : (s.setSession p x).sqr = s.sqr := rfl
@[simp] theorem setSession_sessions (p : Port) (x : Option Session) :
    (s.setSession p x).sessions = s.sessions.set p x := rfl
@[simp] theorem setSession_alertMask (p : Port) (x : Option Session) :
    (s.setSession p x).alertMask = s.alertMask := rfl
@[simp] theorem setSession_leases (p : Port) (x : Option Session) : (s.setSession p x).leases = s.leases := rfl
@[simp] theorem setSession_txns (p : Port) (x : Option Session) : (s.setSession p x).txns = s.txns := rfl
@[simp] theorem setSession_claims (p : Port) (x : Option Session) : (s.setSession p x).claims = s.claims := rfl
@[simp] theorem setSession_commitQueue (p : Port) (x : Option Session) :
    (s.setSession p x).commitQueue = s.commitQueue := rfl
@[simp] theorem setSession_sb (p : Port) (x : Option Session) : (s.setSession p x).sb = s.sb := rfl
@[simp] theorem setSession_engine (p : Port) (x : Option Session) : (s.setSession p x).engine = s.engine := rfl
@[simp] theorem setSession_waiting (p : Port) (x : Option Session) : (s.setSession p x).waiting = s.waiting := rfl
@[simp] theorem setSession_lastGranted (p : Port) (x : Option Session) :
    (s.setSession p x).lastGranted = s.lastGranted := rfl
@[simp] theorem setSession_inFlight (p : Port) (x : Option Session) : (s.setSession p x).inFlight = s.inFlight := rfl
@[simp] theorem setSession_fence (p : Port) (x : Option Session) : (s.setSession p x).fence = s.fence := rfl
@[simp] theorem setSession_absorbed (p : Port) (x : Option Session) : (s.setSession p x).absorbed = s.absorbed := rfl
@[simp] theorem setSession_records (p : Port) (x : Option Session) : (s.setSession p x).records = s.records := rfl
@[simp] theorem setSession_seqCounter (p : Port) (x : Option Session) :
    (s.setSession p x).seqCounter = s.seqCounter := rfl
@[simp] theorem setSession_timeBase (p : Port) (x : Option Session) : (s.setSession p x).timeBase = s.timeBase := rfl
@[simp] theorem setSession_raised (p : Port) (x : Option Session) : (s.setSession p x).raised = s.raised := rfl
@[simp] theorem setSession_memory (p : Port) (x : Option Session) : (s.setSession p x).memory = s.memory := rfl
@[simp] theorem setSession_pending (p : Port) (x : Option Session) : (s.setSession p x).pending = s.pending := rfl

/-! ### setAlertMask -/

@[simp] theorem setAlertMask_supply (p : Port) (m : BitVec 8) : (s.setAlertMask p m).supply = s.supply := rfl
@[simp] theorem setAlertMask_resetn (p : Port) (m : BitVec 8) : (s.setAlertMask p m).resetn = s.resetn := rfl
@[simp] theorem setAlertMask_pwrgood (p : Port) (m : BitVec 8) : (s.setAlertMask p m).pwrgood = s.pwrgood := rfl
@[simp] theorem setAlertMask_pbyp (p : Port) (m : BitVec 8) : (s.setAlertMask p m).pbyp = s.pbyp := rfl
@[simp] theorem setAlertMask_stage (p : Port) (m : BitVec 8) : (s.setAlertMask p m).stage = s.stage := rfl
@[simp] theorem setAlertMask_profile (p : Port) (m : BitVec 8) : (s.setAlertMask p m).profile = s.profile := rfl
@[simp] theorem setAlertMask_profileStatus (p : Port) (m : BitVec 8) :
    (s.setAlertMask p m).profileStatus = s.profileStatus := rfl
@[simp] theorem setAlertMask_candidate (p : Port) (m : BitVec 8) : (s.setAlertMask p m).candidate = s.candidate := rfl
@[simp] theorem setAlertMask_recovery (p : Port) (m : BitVec 8) : (s.setAlertMask p m).recovery = s.recovery := rfl
@[simp] theorem setAlertMask_ports (p : Port) (m : BitVec 8) : (s.setAlertMask p m).ports = s.ports := rfl
@[simp] theorem setAlertMask_sqr (p : Port) (m : BitVec 8) : (s.setAlertMask p m).sqr = s.sqr := rfl
@[simp] theorem setAlertMask_sessions (p : Port) (m : BitVec 8) : (s.setAlertMask p m).sessions = s.sessions := rfl
@[simp] theorem setAlertMask_alertMask (p : Port) (m : BitVec 8) :
    (s.setAlertMask p m).alertMask = s.alertMask.set p m := rfl
@[simp] theorem setAlertMask_leases (p : Port) (m : BitVec 8) : (s.setAlertMask p m).leases = s.leases := rfl
@[simp] theorem setAlertMask_txns (p : Port) (m : BitVec 8) : (s.setAlertMask p m).txns = s.txns := rfl
@[simp] theorem setAlertMask_claims (p : Port) (m : BitVec 8) : (s.setAlertMask p m).claims = s.claims := rfl
@[simp] theorem setAlertMask_commitQueue (p : Port) (m : BitVec 8) :
    (s.setAlertMask p m).commitQueue = s.commitQueue := rfl
@[simp] theorem setAlertMask_sb (p : Port) (m : BitVec 8) : (s.setAlertMask p m).sb = s.sb := rfl
@[simp] theorem setAlertMask_engine (p : Port) (m : BitVec 8) : (s.setAlertMask p m).engine = s.engine := rfl
@[simp] theorem setAlertMask_waiting (p : Port) (m : BitVec 8) : (s.setAlertMask p m).waiting = s.waiting := rfl
@[simp] theorem setAlertMask_lastGranted (p : Port) (m : BitVec 8) :
    (s.setAlertMask p m).lastGranted = s.lastGranted := rfl
@[simp] theorem setAlertMask_inFlight (p : Port) (m : BitVec 8) : (s.setAlertMask p m).inFlight = s.inFlight := rfl
@[simp] theorem setAlertMask_fence (p : Port) (m : BitVec 8) : (s.setAlertMask p m).fence = s.fence := rfl
@[simp] theorem setAlertMask_absorbed (p : Port) (m : BitVec 8) : (s.setAlertMask p m).absorbed = s.absorbed := rfl
@[simp] theorem setAlertMask_records (p : Port) (m : BitVec 8) : (s.setAlertMask p m).records = s.records := rfl
@[simp] theorem setAlertMask_seqCounter (p : Port) (m : BitVec 8) :
    (s.setAlertMask p m).seqCounter = s.seqCounter := rfl
@[simp] theorem setAlertMask_timeBase (p : Port) (m : BitVec 8) : (s.setAlertMask p m).timeBase = s.timeBase := rfl
@[simp] theorem setAlertMask_raised (p : Port) (m : BitVec 8) : (s.setAlertMask p m).raised = s.raised := rfl
@[simp] theorem setAlertMask_memory (p : Port) (m : BitVec 8) : (s.setAlertMask p m).memory = s.memory := rfl
@[simp] theorem setAlertMask_pending (p : Port) (m : BitVec 8) : (s.setAlertMask p m).pending = s.pending := rfl

/-! ### setLease -/

@[simp] theorem setLease_supply (w : Fin 16) (l : Lease) : (s.setLease w l).supply = s.supply := rfl
@[simp] theorem setLease_resetn (w : Fin 16) (l : Lease) : (s.setLease w l).resetn = s.resetn := rfl
@[simp] theorem setLease_pwrgood (w : Fin 16) (l : Lease) : (s.setLease w l).pwrgood = s.pwrgood := rfl
@[simp] theorem setLease_pbyp (w : Fin 16) (l : Lease) : (s.setLease w l).pbyp = s.pbyp := rfl
@[simp] theorem setLease_stage (w : Fin 16) (l : Lease) : (s.setLease w l).stage = s.stage := rfl
@[simp] theorem setLease_profile (w : Fin 16) (l : Lease) : (s.setLease w l).profile = s.profile := rfl
@[simp] theorem setLease_profileStatus (w : Fin 16) (l : Lease) :
    (s.setLease w l).profileStatus = s.profileStatus := rfl
@[simp] theorem setLease_candidate (w : Fin 16) (l : Lease) : (s.setLease w l).candidate = s.candidate := rfl
@[simp] theorem setLease_recovery (w : Fin 16) (l : Lease) : (s.setLease w l).recovery = s.recovery := rfl
@[simp] theorem setLease_ports (w : Fin 16) (l : Lease) : (s.setLease w l).ports = s.ports := rfl
@[simp] theorem setLease_sqr (w : Fin 16) (l : Lease) : (s.setLease w l).sqr = s.sqr := rfl
@[simp] theorem setLease_sessions (w : Fin 16) (l : Lease) : (s.setLease w l).sessions = s.sessions := rfl
@[simp] theorem setLease_alertMask (w : Fin 16) (l : Lease) : (s.setLease w l).alertMask = s.alertMask := rfl
@[simp] theorem setLease_leases (w : Fin 16) (l : Lease) : (s.setLease w l).leases = s.leases.set w.val l := rfl
@[simp] theorem setLease_txns (w : Fin 16) (l : Lease) : (s.setLease w l).txns = s.txns := rfl
@[simp] theorem setLease_claims (w : Fin 16) (l : Lease) : (s.setLease w l).claims = s.claims := rfl
@[simp] theorem setLease_commitQueue (w : Fin 16) (l : Lease) : (s.setLease w l).commitQueue = s.commitQueue := rfl
@[simp] theorem setLease_sb (w : Fin 16) (l : Lease) : (s.setLease w l).sb = s.sb := rfl
@[simp] theorem setLease_engine (w : Fin 16) (l : Lease) : (s.setLease w l).engine = s.engine := rfl
@[simp] theorem setLease_waiting (w : Fin 16) (l : Lease) : (s.setLease w l).waiting = s.waiting := rfl
@[simp] theorem setLease_lastGranted (w : Fin 16) (l : Lease) : (s.setLease w l).lastGranted = s.lastGranted := rfl
@[simp] theorem setLease_inFlight (w : Fin 16) (l : Lease) : (s.setLease w l).inFlight = s.inFlight := rfl
@[simp] theorem setLease_fence (w : Fin 16) (l : Lease) : (s.setLease w l).fence = s.fence := rfl
@[simp] theorem setLease_absorbed (w : Fin 16) (l : Lease) : (s.setLease w l).absorbed = s.absorbed := rfl
@[simp] theorem setLease_records (w : Fin 16) (l : Lease) : (s.setLease w l).records = s.records := rfl
@[simp] theorem setLease_seqCounter (w : Fin 16) (l : Lease) : (s.setLease w l).seqCounter = s.seqCounter := rfl
@[simp] theorem setLease_timeBase (w : Fin 16) (l : Lease) : (s.setLease w l).timeBase = s.timeBase := rfl
@[simp] theorem setLease_raised (w : Fin 16) (l : Lease) : (s.setLease w l).raised = s.raised := rfl
@[simp] theorem setLease_memory (w : Fin 16) (l : Lease) : (s.setLease w l).memory = s.memory := rfl
@[simp] theorem setLease_pending (w : Fin 16) (l : Lease) : (s.setLease w l).pending = s.pending := rfl

/-! ### setClaim -/

@[simp] theorem setClaim_supply (w : Fin 16) (c : Option Port) : (s.setClaim w c).supply = s.supply := rfl
@[simp] theorem setClaim_resetn (w : Fin 16) (c : Option Port) : (s.setClaim w c).resetn = s.resetn := rfl
@[simp] theorem setClaim_pwrgood (w : Fin 16) (c : Option Port) : (s.setClaim w c).pwrgood = s.pwrgood := rfl
@[simp] theorem setClaim_pbyp (w : Fin 16) (c : Option Port) : (s.setClaim w c).pbyp = s.pbyp := rfl
@[simp] theorem setClaim_stage (w : Fin 16) (c : Option Port) : (s.setClaim w c).stage = s.stage := rfl
@[simp] theorem setClaim_profile (w : Fin 16) (c : Option Port) : (s.setClaim w c).profile = s.profile := rfl
@[simp] theorem setClaim_profileStatus (w : Fin 16) (c : Option Port) :
    (s.setClaim w c).profileStatus = s.profileStatus := rfl
@[simp] theorem setClaim_candidate (w : Fin 16) (c : Option Port) : (s.setClaim w c).candidate = s.candidate := rfl
@[simp] theorem setClaim_recovery (w : Fin 16) (c : Option Port) : (s.setClaim w c).recovery = s.recovery := rfl
@[simp] theorem setClaim_ports (w : Fin 16) (c : Option Port) : (s.setClaim w c).ports = s.ports := rfl
@[simp] theorem setClaim_sqr (w : Fin 16) (c : Option Port) : (s.setClaim w c).sqr = s.sqr := rfl
@[simp] theorem setClaim_sessions (w : Fin 16) (c : Option Port) : (s.setClaim w c).sessions = s.sessions := rfl
@[simp] theorem setClaim_alertMask (w : Fin 16) (c : Option Port) : (s.setClaim w c).alertMask = s.alertMask := rfl
@[simp] theorem setClaim_leases (w : Fin 16) (c : Option Port) : (s.setClaim w c).leases = s.leases := rfl
@[simp] theorem setClaim_txns (w : Fin 16) (c : Option Port) : (s.setClaim w c).txns = s.txns := rfl
@[simp] theorem setClaim_claims (w : Fin 16) (c : Option Port) : (s.setClaim w c).claims = s.claims.set w.val c := rfl
@[simp] theorem setClaim_commitQueue (w : Fin 16) (c : Option Port) :
    (s.setClaim w c).commitQueue = s.commitQueue := rfl
@[simp] theorem setClaim_sb (w : Fin 16) (c : Option Port) : (s.setClaim w c).sb = s.sb := rfl
@[simp] theorem setClaim_engine (w : Fin 16) (c : Option Port) : (s.setClaim w c).engine = s.engine := rfl
@[simp] theorem setClaim_waiting (w : Fin 16) (c : Option Port) : (s.setClaim w c).waiting = s.waiting := rfl
@[simp] theorem setClaim_lastGranted (w : Fin 16) (c : Option Port) :
    (s.setClaim w c).lastGranted = s.lastGranted := rfl
@[simp] theorem setClaim_inFlight (w : Fin 16) (c : Option Port) : (s.setClaim w c).inFlight = s.inFlight := rfl
@[simp] theorem setClaim_fence (w : Fin 16) (c : Option Port) : (s.setClaim w c).fence = s.fence := rfl
@[simp] theorem setClaim_absorbed (w : Fin 16) (c : Option Port) : (s.setClaim w c).absorbed = s.absorbed := rfl
@[simp] theorem setClaim_records (w : Fin 16) (c : Option Port) : (s.setClaim w c).records = s.records := rfl
@[simp] theorem setClaim_seqCounter (w : Fin 16) (c : Option Port) : (s.setClaim w c).seqCounter = s.seqCounter := rfl
@[simp] theorem setClaim_timeBase (w : Fin 16) (c : Option Port) : (s.setClaim w c).timeBase = s.timeBase := rfl
@[simp] theorem setClaim_raised (w : Fin 16) (c : Option Port) : (s.setClaim w c).raised = s.raised := rfl
@[simp] theorem setClaim_memory (w : Fin 16) (c : Option Port) : (s.setClaim w c).memory = s.memory := rfl
@[simp] theorem setClaim_pending (w : Fin 16) (c : Option Port) : (s.setClaim w c).pending = s.pending := rfl

/-! ### setTxn -/

@[simp] theorem setTxn_supply (p : Port) (t : Txn) : (s.setTxn p t).supply = s.supply := rfl
@[simp] theorem setTxn_resetn (p : Port) (t : Txn) : (s.setTxn p t).resetn = s.resetn := rfl
@[simp] theorem setTxn_pwrgood (p : Port) (t : Txn) : (s.setTxn p t).pwrgood = s.pwrgood := rfl
@[simp] theorem setTxn_pbyp (p : Port) (t : Txn) : (s.setTxn p t).pbyp = s.pbyp := rfl
@[simp] theorem setTxn_stage (p : Port) (t : Txn) : (s.setTxn p t).stage = s.stage := rfl
@[simp] theorem setTxn_profile (p : Port) (t : Txn) : (s.setTxn p t).profile = s.profile := rfl
@[simp] theorem setTxn_profileStatus (p : Port) (t : Txn) : (s.setTxn p t).profileStatus = s.profileStatus := rfl
@[simp] theorem setTxn_candidate (p : Port) (t : Txn) : (s.setTxn p t).candidate = s.candidate := rfl
@[simp] theorem setTxn_recovery (p : Port) (t : Txn) : (s.setTxn p t).recovery = s.recovery := rfl
@[simp] theorem setTxn_ports (p : Port) (t : Txn) : (s.setTxn p t).ports = s.ports := rfl
@[simp] theorem setTxn_sqr (p : Port) (t : Txn) : (s.setTxn p t).sqr = s.sqr := rfl
@[simp] theorem setTxn_sessions (p : Port) (t : Txn) : (s.setTxn p t).sessions = s.sessions := rfl
@[simp] theorem setTxn_alertMask (p : Port) (t : Txn) : (s.setTxn p t).alertMask = s.alertMask := rfl
@[simp] theorem setTxn_leases (p : Port) (t : Txn) : (s.setTxn p t).leases = s.leases := rfl
@[simp] theorem setTxn_txns (p : Port) (t : Txn) : (s.setTxn p t).txns = s.txns.set p t := rfl
@[simp] theorem setTxn_claims (p : Port) (t : Txn) : (s.setTxn p t).claims = s.claims := rfl
@[simp] theorem setTxn_commitQueue (p : Port) (t : Txn) : (s.setTxn p t).commitQueue = s.commitQueue := rfl
@[simp] theorem setTxn_sb (p : Port) (t : Txn) : (s.setTxn p t).sb = s.sb := rfl
@[simp] theorem setTxn_engine (p : Port) (t : Txn) : (s.setTxn p t).engine = s.engine := rfl
@[simp] theorem setTxn_waiting (p : Port) (t : Txn) : (s.setTxn p t).waiting = s.waiting := rfl
@[simp] theorem setTxn_lastGranted (p : Port) (t : Txn) : (s.setTxn p t).lastGranted = s.lastGranted := rfl
@[simp] theorem setTxn_inFlight (p : Port) (t : Txn) : (s.setTxn p t).inFlight = s.inFlight := rfl
@[simp] theorem setTxn_fence (p : Port) (t : Txn) : (s.setTxn p t).fence = s.fence := rfl
@[simp] theorem setTxn_absorbed (p : Port) (t : Txn) : (s.setTxn p t).absorbed = s.absorbed := rfl
@[simp] theorem setTxn_records (p : Port) (t : Txn) : (s.setTxn p t).records = s.records := rfl
@[simp] theorem setTxn_seqCounter (p : Port) (t : Txn) : (s.setTxn p t).seqCounter = s.seqCounter := rfl
@[simp] theorem setTxn_timeBase (p : Port) (t : Txn) : (s.setTxn p t).timeBase = s.timeBase := rfl
@[simp] theorem setTxn_raised (p : Port) (t : Txn) : (s.setTxn p t).raised = s.raised := rfl
@[simp] theorem setTxn_memory (p : Port) (t : Txn) : (s.setTxn p t).memory = s.memory := rfl
@[simp] theorem setTxn_pending (p : Port) (t : Txn) : (s.setTxn p t).pending = s.pending := rfl

/-! ### setEngine -/

@[simp] theorem setEngine_supply (e : Engine) : (s.setEngine e).supply = s.supply := rfl
@[simp] theorem setEngine_resetn (e : Engine) : (s.setEngine e).resetn = s.resetn := rfl
@[simp] theorem setEngine_pwrgood (e : Engine) : (s.setEngine e).pwrgood = s.pwrgood := rfl
@[simp] theorem setEngine_pbyp (e : Engine) : (s.setEngine e).pbyp = s.pbyp := rfl
@[simp] theorem setEngine_stage (e : Engine) : (s.setEngine e).stage = s.stage := rfl
@[simp] theorem setEngine_profile (e : Engine) : (s.setEngine e).profile = s.profile := rfl
@[simp] theorem setEngine_profileStatus (e : Engine) : (s.setEngine e).profileStatus = s.profileStatus := rfl
@[simp] theorem setEngine_candidate (e : Engine) : (s.setEngine e).candidate = s.candidate := rfl
@[simp] theorem setEngine_recovery (e : Engine) : (s.setEngine e).recovery = s.recovery := rfl
@[simp] theorem setEngine_ports (e : Engine) : (s.setEngine e).ports = s.ports := rfl
@[simp] theorem setEngine_sqr (e : Engine) : (s.setEngine e).sqr = s.sqr := rfl
@[simp] theorem setEngine_sessions (e : Engine) : (s.setEngine e).sessions = s.sessions := rfl
@[simp] theorem setEngine_alertMask (e : Engine) : (s.setEngine e).alertMask = s.alertMask := rfl
@[simp] theorem setEngine_leases (e : Engine) : (s.setEngine e).leases = s.leases := rfl
@[simp] theorem setEngine_txns (e : Engine) : (s.setEngine e).txns = s.txns := rfl
@[simp] theorem setEngine_claims (e : Engine) : (s.setEngine e).claims = s.claims := rfl
@[simp] theorem setEngine_commitQueue (e : Engine) : (s.setEngine e).commitQueue = s.commitQueue := rfl
@[simp] theorem setEngine_sb (e : Engine) : (s.setEngine e).sb = s.sb := rfl
@[simp] theorem setEngine_engine (e : Engine) : (s.setEngine e).engine = e := rfl
@[simp] theorem setEngine_waiting (e : Engine) : (s.setEngine e).waiting = s.waiting := rfl
@[simp] theorem setEngine_lastGranted (e : Engine) : (s.setEngine e).lastGranted = s.lastGranted := rfl
@[simp] theorem setEngine_inFlight (e : Engine) : (s.setEngine e).inFlight = s.inFlight := rfl
@[simp] theorem setEngine_fence (e : Engine) : (s.setEngine e).fence = s.fence := rfl
@[simp] theorem setEngine_absorbed (e : Engine) : (s.setEngine e).absorbed = s.absorbed := rfl
@[simp] theorem setEngine_records (e : Engine) : (s.setEngine e).records = s.records := rfl
@[simp] theorem setEngine_seqCounter (e : Engine) : (s.setEngine e).seqCounter = s.seqCounter := rfl
@[simp] theorem setEngine_timeBase (e : Engine) : (s.setEngine e).timeBase = s.timeBase := rfl
@[simp] theorem setEngine_raised (e : Engine) : (s.setEngine e).raised = s.raised := rfl
@[simp] theorem setEngine_memory (e : Engine) : (s.setEngine e).memory = s.memory := rfl
@[simp] theorem setEngine_pending (e : Engine) : (s.setEngine e).pending = s.pending := rfl

/-! ### setEngineRequest -/

@[simp] theorem setEngineRequest_supply (q : Option Request) : (s.setEngineRequest q).supply = s.supply := rfl
@[simp] theorem setEngineRequest_resetn (q : Option Request) : (s.setEngineRequest q).resetn = s.resetn := rfl
@[simp] theorem setEngineRequest_pwrgood (q : Option Request) : (s.setEngineRequest q).pwrgood = s.pwrgood := rfl
@[simp] theorem setEngineRequest_pbyp (q : Option Request) : (s.setEngineRequest q).pbyp = s.pbyp := rfl
@[simp] theorem setEngineRequest_stage (q : Option Request) : (s.setEngineRequest q).stage = s.stage := rfl
@[simp] theorem setEngineRequest_profile (q : Option Request) : (s.setEngineRequest q).profile = s.profile := rfl
@[simp] theorem setEngineRequest_profileStatus (q : Option Request) :
    (s.setEngineRequest q).profileStatus = s.profileStatus := rfl
@[simp] theorem setEngineRequest_candidate (q : Option Request) :
    (s.setEngineRequest q).candidate = s.candidate := rfl
@[simp] theorem setEngineRequest_recovery (q : Option Request) : (s.setEngineRequest q).recovery = s.recovery := rfl
@[simp] theorem setEngineRequest_ports (q : Option Request) : (s.setEngineRequest q).ports = s.ports := rfl
@[simp] theorem setEngineRequest_sqr (q : Option Request) : (s.setEngineRequest q).sqr = s.sqr := rfl
@[simp] theorem setEngineRequest_sessions (q : Option Request) : (s.setEngineRequest q).sessions = s.sessions := rfl
@[simp] theorem setEngineRequest_alertMask (q : Option Request) :
    (s.setEngineRequest q).alertMask = s.alertMask := rfl
@[simp] theorem setEngineRequest_leases (q : Option Request) : (s.setEngineRequest q).leases = s.leases := rfl
@[simp] theorem setEngineRequest_txns (q : Option Request) : (s.setEngineRequest q).txns = s.txns := rfl
@[simp] theorem setEngineRequest_claims (q : Option Request) : (s.setEngineRequest q).claims = s.claims := rfl
@[simp] theorem setEngineRequest_commitQueue (q : Option Request) :
    (s.setEngineRequest q).commitQueue = s.commitQueue := rfl
@[simp] theorem setEngineRequest_sb (q : Option Request) : (s.setEngineRequest q).sb = s.sb := rfl
@[simp] theorem setEngineRequest_engine (q : Option Request) : (s.setEngineRequest q).engine = s.engine := rfl
@[simp] theorem setEngineRequest_waiting (q : Option Request) :
    (s.setEngineRequest q).waiting = { s.waiting with engine := q } := rfl
@[simp] theorem setEngineRequest_lastGranted (q : Option Request) :
    (s.setEngineRequest q).lastGranted = s.lastGranted := rfl
@[simp] theorem setEngineRequest_inFlight (q : Option Request) : (s.setEngineRequest q).inFlight = s.inFlight := rfl
@[simp] theorem setEngineRequest_fence (q : Option Request) : (s.setEngineRequest q).fence = s.fence := rfl
@[simp] theorem setEngineRequest_absorbed (q : Option Request) : (s.setEngineRequest q).absorbed = s.absorbed := rfl
@[simp] theorem setEngineRequest_records (q : Option Request) : (s.setEngineRequest q).records = s.records := rfl
@[simp] theorem setEngineRequest_seqCounter (q : Option Request) :
    (s.setEngineRequest q).seqCounter = s.seqCounter := rfl
@[simp] theorem setEngineRequest_timeBase (q : Option Request) : (s.setEngineRequest q).timeBase = s.timeBase := rfl
@[simp] theorem setEngineRequest_raised (q : Option Request) : (s.setEngineRequest q).raised = s.raised := rfl
@[simp] theorem setEngineRequest_memory (q : Option Request) : (s.setEngineRequest q).memory = s.memory := rfl
@[simp] theorem setEngineRequest_pending (q : Option Request) : (s.setEngineRequest q).pending = s.pending := rfl

/-! ### setClientRequest -/

@[simp] theorem setClientRequest_supply (p : Port) (q : Option Request) :
    (s.setClientRequest p q).supply = s.supply := rfl
@[simp] theorem setClientRequest_resetn (p : Port) (q : Option Request) :
    (s.setClientRequest p q).resetn = s.resetn := rfl
@[simp] theorem setClientRequest_pwrgood (p : Port) (q : Option Request) :
    (s.setClientRequest p q).pwrgood = s.pwrgood := rfl
@[simp] theorem setClientRequest_pbyp (p : Port) (q : Option Request) : (s.setClientRequest p q).pbyp = s.pbyp := rfl
@[simp] theorem setClientRequest_stage (p : Port) (q : Option Request) :
    (s.setClientRequest p q).stage = s.stage := rfl
@[simp] theorem setClientRequest_profile (p : Port) (q : Option Request) :
    (s.setClientRequest p q).profile = s.profile := rfl
@[simp] theorem setClientRequest_profileStatus (p : Port) (q : Option Request) :
    (s.setClientRequest p q).profileStatus = s.profileStatus := rfl
@[simp] theorem setClientRequest_candidate (p : Port) (q : Option Request) :
    (s.setClientRequest p q).candidate = s.candidate := rfl
@[simp] theorem setClientRequest_recovery (p : Port) (q : Option Request) :
    (s.setClientRequest p q).recovery = s.recovery := rfl
@[simp] theorem setClientRequest_ports (p : Port) (q : Option Request) :
    (s.setClientRequest p q).ports = s.ports := rfl
@[simp] theorem setClientRequest_sqr (p : Port) (q : Option Request) : (s.setClientRequest p q).sqr = s.sqr := rfl
@[simp] theorem setClientRequest_sessions (p : Port) (q : Option Request) :
    (s.setClientRequest p q).sessions = s.sessions := rfl
@[simp] theorem setClientRequest_alertMask (p : Port) (q : Option Request) :
    (s.setClientRequest p q).alertMask = s.alertMask := rfl
@[simp] theorem setClientRequest_leases (p : Port) (q : Option Request) :
    (s.setClientRequest p q).leases = s.leases := rfl
@[simp] theorem setClientRequest_txns (p : Port) (q : Option Request) : (s.setClientRequest p q).txns = s.txns := rfl
@[simp] theorem setClientRequest_claims (p : Port) (q : Option Request) :
    (s.setClientRequest p q).claims = s.claims := rfl
@[simp] theorem setClientRequest_commitQueue (p : Port) (q : Option Request) :
    (s.setClientRequest p q).commitQueue = s.commitQueue := rfl
@[simp] theorem setClientRequest_sb (p : Port) (q : Option Request) : (s.setClientRequest p q).sb = s.sb := rfl
@[simp] theorem setClientRequest_engine (p : Port) (q : Option Request) :
    (s.setClientRequest p q).engine = s.engine := rfl
@[simp] theorem setClientRequest_waiting (p : Port) (q : Option Request) :
    (s.setClientRequest p q).waiting = { s.waiting with client := s.waiting.client.set p q } := rfl
@[simp] theorem setClientRequest_lastGranted (p : Port) (q : Option Request) :
    (s.setClientRequest p q).lastGranted = s.lastGranted := rfl
@[simp] theorem setClientRequest_inFlight (p : Port) (q : Option Request) :
    (s.setClientRequest p q).inFlight = s.inFlight := rfl
@[simp] theorem setClientRequest_fence (p : Port) (q : Option Request) :
    (s.setClientRequest p q).fence = s.fence := rfl
@[simp] theorem setClientRequest_absorbed (p : Port) (q : Option Request) :
    (s.setClientRequest p q).absorbed = s.absorbed := rfl
@[simp] theorem setClientRequest_records (p : Port) (q : Option Request) :
    (s.setClientRequest p q).records = s.records := rfl
@[simp] theorem setClientRequest_seqCounter (p : Port) (q : Option Request) :
    (s.setClientRequest p q).seqCounter = s.seqCounter := rfl
@[simp] theorem setClientRequest_timeBase (p : Port) (q : Option Request) :
    (s.setClientRequest p q).timeBase = s.timeBase := rfl
@[simp] theorem setClientRequest_raised (p : Port) (q : Option Request) :
    (s.setClientRequest p q).raised = s.raised := rfl
@[simp] theorem setClientRequest_memory (p : Port) (q : Option Request) :
    (s.setClientRequest p q).memory = s.memory := rfl
@[simp] theorem setClientRequest_pending (p : Port) (q : Option Request) :
    (s.setClientRequest p q).pending = s.pending := rfl

/-! ### setInFlight -/

@[simp] theorem setInFlight_supply (a : Option Access) : (s.setInFlight a).supply = s.supply := rfl
@[simp] theorem setInFlight_resetn (a : Option Access) : (s.setInFlight a).resetn = s.resetn := rfl
@[simp] theorem setInFlight_pwrgood (a : Option Access) : (s.setInFlight a).pwrgood = s.pwrgood := rfl
@[simp] theorem setInFlight_pbyp (a : Option Access) : (s.setInFlight a).pbyp = s.pbyp := rfl
@[simp] theorem setInFlight_stage (a : Option Access) : (s.setInFlight a).stage = s.stage := rfl
@[simp] theorem setInFlight_profile (a : Option Access) : (s.setInFlight a).profile = s.profile := rfl
@[simp] theorem setInFlight_profileStatus (a : Option Access) :
    (s.setInFlight a).profileStatus = s.profileStatus := rfl
@[simp] theorem setInFlight_candidate (a : Option Access) : (s.setInFlight a).candidate = s.candidate := rfl
@[simp] theorem setInFlight_recovery (a : Option Access) : (s.setInFlight a).recovery = s.recovery := rfl
@[simp] theorem setInFlight_ports (a : Option Access) : (s.setInFlight a).ports = s.ports := rfl
@[simp] theorem setInFlight_sqr (a : Option Access) : (s.setInFlight a).sqr = s.sqr := rfl
@[simp] theorem setInFlight_sessions (a : Option Access) : (s.setInFlight a).sessions = s.sessions := rfl
@[simp] theorem setInFlight_alertMask (a : Option Access) : (s.setInFlight a).alertMask = s.alertMask := rfl
@[simp] theorem setInFlight_leases (a : Option Access) : (s.setInFlight a).leases = s.leases := rfl
@[simp] theorem setInFlight_txns (a : Option Access) : (s.setInFlight a).txns = s.txns := rfl
@[simp] theorem setInFlight_claims (a : Option Access) : (s.setInFlight a).claims = s.claims := rfl
@[simp] theorem setInFlight_commitQueue (a : Option Access) : (s.setInFlight a).commitQueue = s.commitQueue := rfl
@[simp] theorem setInFlight_sb (a : Option Access) : (s.setInFlight a).sb = s.sb := rfl
@[simp] theorem setInFlight_engine (a : Option Access) : (s.setInFlight a).engine = s.engine := rfl
@[simp] theorem setInFlight_waiting (a : Option Access) : (s.setInFlight a).waiting = s.waiting := rfl
@[simp] theorem setInFlight_lastGranted (a : Option Access) : (s.setInFlight a).lastGranted = s.lastGranted := rfl
@[simp] theorem setInFlight_inFlight (a : Option Access) : (s.setInFlight a).inFlight = a := rfl
@[simp] theorem setInFlight_fence (a : Option Access) : (s.setInFlight a).fence = s.fence := rfl
@[simp] theorem setInFlight_absorbed (a : Option Access) : (s.setInFlight a).absorbed = s.absorbed := rfl
@[simp] theorem setInFlight_records (a : Option Access) : (s.setInFlight a).records = s.records := rfl
@[simp] theorem setInFlight_seqCounter (a : Option Access) : (s.setInFlight a).seqCounter = s.seqCounter := rfl
@[simp] theorem setInFlight_timeBase (a : Option Access) : (s.setInFlight a).timeBase = s.timeBase := rfl
@[simp] theorem setInFlight_raised (a : Option Access) : (s.setInFlight a).raised = s.raised := rfl
@[simp] theorem setInFlight_memory (a : Option Access) : (s.setInFlight a).memory = s.memory := rfl
@[simp] theorem setInFlight_pending (a : Option Access) : (s.setInFlight a).pending = s.pending := rfl

/-! ### writeWord -/

@[simp] theorem writeWord_supply (x : Addr) (w : Word) : (s.writeWord x w).supply = s.supply := rfl
@[simp] theorem writeWord_resetn (x : Addr) (w : Word) : (s.writeWord x w).resetn = s.resetn := rfl
@[simp] theorem writeWord_pwrgood (x : Addr) (w : Word) : (s.writeWord x w).pwrgood = s.pwrgood := rfl
@[simp] theorem writeWord_pbyp (x : Addr) (w : Word) : (s.writeWord x w).pbyp = s.pbyp := rfl
@[simp] theorem writeWord_stage (x : Addr) (w : Word) : (s.writeWord x w).stage = s.stage := rfl
@[simp] theorem writeWord_profile (x : Addr) (w : Word) : (s.writeWord x w).profile = s.profile := rfl
@[simp] theorem writeWord_profileStatus (x : Addr) (w : Word) :
    (s.writeWord x w).profileStatus = s.profileStatus := rfl
@[simp] theorem writeWord_candidate (x : Addr) (w : Word) : (s.writeWord x w).candidate = s.candidate := rfl
@[simp] theorem writeWord_recovery (x : Addr) (w : Word) : (s.writeWord x w).recovery = s.recovery := rfl
@[simp] theorem writeWord_ports (x : Addr) (w : Word) : (s.writeWord x w).ports = s.ports := rfl
@[simp] theorem writeWord_sqr (x : Addr) (w : Word) : (s.writeWord x w).sqr = s.sqr := rfl
@[simp] theorem writeWord_sessions (x : Addr) (w : Word) : (s.writeWord x w).sessions = s.sessions := rfl
@[simp] theorem writeWord_alertMask (x : Addr) (w : Word) : (s.writeWord x w).alertMask = s.alertMask := rfl
@[simp] theorem writeWord_leases (x : Addr) (w : Word) : (s.writeWord x w).leases = s.leases := rfl
@[simp] theorem writeWord_txns (x : Addr) (w : Word) : (s.writeWord x w).txns = s.txns := rfl
@[simp] theorem writeWord_claims (x : Addr) (w : Word) : (s.writeWord x w).claims = s.claims := rfl
@[simp] theorem writeWord_commitQueue (x : Addr) (w : Word) : (s.writeWord x w).commitQueue = s.commitQueue := rfl
@[simp] theorem writeWord_sb (x : Addr) (w : Word) : (s.writeWord x w).sb = s.sb := rfl
@[simp] theorem writeWord_engine (x : Addr) (w : Word) : (s.writeWord x w).engine = s.engine := rfl
@[simp] theorem writeWord_waiting (x : Addr) (w : Word) : (s.writeWord x w).waiting = s.waiting := rfl
@[simp] theorem writeWord_lastGranted (x : Addr) (w : Word) : (s.writeWord x w).lastGranted = s.lastGranted := rfl
@[simp] theorem writeWord_inFlight (x : Addr) (w : Word) : (s.writeWord x w).inFlight = s.inFlight := rfl
@[simp] theorem writeWord_fence (x : Addr) (w : Word) : (s.writeWord x w).fence = s.fence := rfl
@[simp] theorem writeWord_absorbed (x : Addr) (w : Word) : (s.writeWord x w).absorbed = s.absorbed := rfl
@[simp] theorem writeWord_records (x : Addr) (w : Word) : (s.writeWord x w).records = s.records := rfl
@[simp] theorem writeWord_seqCounter (x : Addr) (w : Word) : (s.writeWord x w).seqCounter = s.seqCounter := rfl
@[simp] theorem writeWord_timeBase (x : Addr) (w : Word) : (s.writeWord x w).timeBase = s.timeBase := rfl
@[simp] theorem writeWord_raised (x : Addr) (w : Word) : (s.writeWord x w).raised = s.raised := rfl
@[simp] theorem writeWord_memory (x : Addr) (w : Word) : (s.writeWord x w).memory = memWrite s.memory x.toNat w := rfl
@[simp] theorem writeWord_pending (x : Addr) (w : Word) : (s.writeWord x w).pending = s.pending := rfl

/-! ### setStage -/

@[simp] theorem setStage_supply (es : List Entry) : (s.setStage es).supply = s.supply := rfl
@[simp] theorem setStage_resetn (es : List Entry) : (s.setStage es).resetn = s.resetn := rfl
@[simp] theorem setStage_pwrgood (es : List Entry) : (s.setStage es).pwrgood = s.pwrgood := rfl
@[simp] theorem setStage_pbyp (es : List Entry) : (s.setStage es).pbyp = s.pbyp := rfl
@[simp] theorem setStage_stage (es : List Entry) : (s.setStage es).stage = s.stage := rfl
@[simp] theorem setStage_profile (es : List Entry) : (s.setStage es).profile = s.profile := rfl
@[simp] theorem setStage_profileStatus (es : List Entry) : (s.setStage es).profileStatus = s.profileStatus := rfl
@[simp] theorem setStage_candidate (es : List Entry) : (s.setStage es).candidate = s.candidate := rfl
@[simp] theorem setStage_recovery (es : List Entry) : (s.setStage es).recovery = s.recovery := rfl
@[simp] theorem setStage_ports (es : List Entry) : (s.setStage es).ports = s.ports := rfl
@[simp] theorem setStage_sqr (es : List Entry) : (s.setStage es).sqr = s.sqr := rfl
@[simp] theorem setStage_sessions (es : List Entry) : (s.setStage es).sessions = s.sessions := rfl
@[simp] theorem setStage_alertMask (es : List Entry) : (s.setStage es).alertMask = s.alertMask := rfl
@[simp] theorem setStage_leases (es : List Entry) : (s.setStage es).leases = s.leases := rfl
@[simp] theorem setStage_txns (es : List Entry) : (s.setStage es).txns = s.txns := rfl
@[simp] theorem setStage_claims (es : List Entry) : (s.setStage es).claims = s.claims := rfl
@[simp] theorem setStage_commitQueue (es : List Entry) : (s.setStage es).commitQueue = s.commitQueue := rfl
@[simp] theorem setStage_sb (es : List Entry) : (s.setStage es).sb = es := rfl
@[simp] theorem setStage_engine (es : List Entry) : (s.setStage es).engine = s.engine := rfl
@[simp] theorem setStage_waiting (es : List Entry) : (s.setStage es).waiting = s.waiting := rfl
@[simp] theorem setStage_lastGranted (es : List Entry) : (s.setStage es).lastGranted = s.lastGranted := rfl
@[simp] theorem setStage_inFlight (es : List Entry) : (s.setStage es).inFlight = s.inFlight := rfl
@[simp] theorem setStage_fence (es : List Entry) : (s.setStage es).fence = s.fence := rfl
@[simp] theorem setStage_absorbed (es : List Entry) : (s.setStage es).absorbed = s.absorbed := rfl
@[simp] theorem setStage_records (es : List Entry) : (s.setStage es).records = s.records := rfl
@[simp] theorem setStage_seqCounter (es : List Entry) : (s.setStage es).seqCounter = s.seqCounter := rfl
@[simp] theorem setStage_timeBase (es : List Entry) : (s.setStage es).timeBase = s.timeBase := rfl
@[simp] theorem setStage_raised (es : List Entry) : (s.setStage es).raised = s.raised := rfl
@[simp] theorem setStage_memory (es : List Entry) : (s.setStage es).memory = s.memory := rfl
@[simp] theorem setStage_pending (es : List Entry) : (s.setStage es).pending = s.pending := rfl

end Sys2Proof.Machine
end

