-- ==== Sys2Proof/Laws/Operations.lean ====
section
/-! SUPPORT. What each shared operation can change, said once as an equation: the state after it is the state before
with the named fields as the operation leaves them. -/

namespace Sys2Proof.Machine

/-! ### Events (chapter 9) -/

theorem raise_frame (n : EventName) (who : Concerned) (w : Option (Fin 16)) (hi lo : Word) (s : State) :
    raise n who w hi lo s = { s with raised := (raise n who w hi lo s).raised } := by
  unfold raise
  dsimp only
  split <;> rfl

/-- An event whose audience is empty leaves everything as it was (09 R171). -/
theorem raise_silent (n : EventName) (who : Concerned) (w : Option (Fin 16)) (hi lo : Word) (s : State)
    (h : ((s.audience who).a || (s.audience who).b) = false) : raise n who w hi lo s = s := by
  simp [raise, h]

/-- An event with an audience waits behind those raised before it (09 R171). -/
theorem raise_heard (n : EventName) (who : Concerned) (w : Option (Fin 16)) (hi lo : Word) (s : State)
    (h : ((s.audience who).a || (s.audience who).b) = true) :
    raise n who w hi lo s = { s with raised := s.raised ++
      [{ name := n, who := who, window := w, hi := hi, lo := lo, audience := s.audience who }] } := by
  simp [raise, h]

theorem store_frame (n : Notice) (s : State) :
    store n s = { s with records := (store n s).records, seqCounter := (store n s).seqCounter } := rfl

theorem takeNotice_frame (n : Notice) (s : State) :
    takeNotice n s =
      { s with records := (takeNotice n s).records, seqCounter := (takeNotice n s).seqCounter } := by
  unfold takeNotice
  split
  · rfl
  · split <;> rfl

/-! ### Sessions, the response queue and outcomes (chapter 3) -/

theorem pushWords_frame (p : Port) (ws : List Word) (s : State) :
    pushWords p ws s = { s with sessions := (pushWords p ws s).sessions } := by
  unfold pushWords
  split <;> rfl

theorem respond_frame (p : Port) (v : Byte) (r : Result) (more : List Word) (s : State) :
    respond p v r more s = { s with sessions := (respond p v r more s).sessions } :=
  pushWords_frame p _ s

/-- The words join at the newest end of the port's response queue (03 R49). -/
theorem respond_session (p : Port) (v : Byte) (r : Result) (more : List Word) (s : State) (x : Session)
    (h : s.sessions.get p = some x) :
    respond p v r more s =
      s.setSession p (some { x with responses := x.responses ++ (responseWord v r :: more) }) := by
  simp [respond, pushWords, h]

theorem offerOutcome_frame (p : Port) (linked : Bool) (o : TxnOutcome) (s : State) :
    offerOutcome p linked o s = { s with sessions := (offerOutcome p linked o s).sessions } := by
  unfold offerOutcome
  split
  · split <;> rfl
  · rfl

/-! ### Leases (chapter 4) -/

theorem endLease_frame (w : Fin 16) (c : LeaseCause) (s : State) :
    endLease w c s = { s with leases := (endLease w c s).leases, raised := (endLease w c s).raised } := by
  unfold endLease
  split
  · rw [raise_frame]; rfl
  · rfl
  · rfl

/-- The end of a lease, in full (04 R76). -/
theorem endLease_leased (w : Fin 16) (c : LeaseCause) (s : State) (r : LeaseRecord) (h : s.lease w = .leased r) :
    endLease w c s = raise .leaseEnded (.port r.holder) (some w) (leaseCauseCode c) r.count
      (s.setLease w (afterLease (s.window w))) := by
  simp [endLease, h]

theorem spendUnit_frame (p : Port) (w : Fin 16) (s : State) :
    spendUnit p w s = { s with leases := (spendUnit p w s).leases, raised := (spendUnit p w s).raised } := by
  unfold spendUnit
  split
  · split
    · dsimp only
      split
      · rw [endLease_frame]; rfl
      · rfl
    · rfl
  · rfl
  · rfl

theorem endLeaseOf_frame (p : Port) (c : LeaseCause) (s : State) (w : Fin 16) :
    endLeaseOf p c s w =
      { s with leases := (endLeaseOf p c s w).leases, raised := (endLeaseOf p c s w).raised } := by
  unfold endLeaseOf
  split
  · exact endLease_frame w c s
  · rfl

theorem foldl_endLeaseOf_frame (p : Port) (c : LeaseCause) (ws : List (Fin 16)) (s : State) :
    ws.foldl (endLeaseOf p c) s =
      { s with leases := (ws.foldl (endLeaseOf p c) s).leases, raised := (ws.foldl (endLeaseOf p c) s).raised } := by
  induction ws generalizing s with
  | nil => rfl
  | cons w rest ih =>
    rw [List.foldl_cons, ih, endLeaseOf_frame]

theorem endLeasesOf_frame (p : Port) (c : LeaseCause) (s : State) :
    endLeasesOf p c s =
      { s with leases := (endLeasesOf p c s).leases, raised := (endLeasesOf p c s).raised } :=
  foldl_endLeaseOf_frame p c allWindows s

/-! ### Transactions (chapter 5) -/

theorem overflowTxn_frame (p : Port) (w : Fin 16) (c : Word) (s : State) :
    overflowTxn p w c s = { s with txns := (overflowTxn p w c s).txns, raised := (overflowTxn p w c s).raised } := by
  unfold overflowTxn
  rw [raise_frame]; rfl

/-- A stage-bound write touches the stage buffer, the claims, the leases, the transaction records and the raised
events, and nothing else (05 R90). -/
theorem stageWrite_frame (p : Port) (w : Fin 16) (x : Addr) (d : Word) (s : State) :
    stageWrite p w x d s =
      { s with
        sb := (stageWrite p w x d s).sb, claims := (stageWrite p w x d s).claims,
        leases := (stageWrite p w x d s).leases, txns := (stageWrite p w x d s).txns,
        raised := (stageWrite p w x d s).raised } := by
  unfold stageWrite
  split
  · rfl
  · split
    · unfold raiseAccess; rw [raise_frame]
    · split
      · rw [spendUnit_frame]; rfl
      · split
        · rw [overflowTxn_frame]
        · split
          · rw [overflowTxn_frame]
          · rw [spendUnit_frame]; rfl

/-- The end of a transaction touches its record, its entries, the claims, the commit queue, the port's session and
the raised events, and nothing else (05 R106, 03 R62). -/
theorem endTxn_frame (p : Port) (o : TxnOutcome) (s : State) :
    endTxn p o s =
      { s with
        sb := (endTxn p o s).sb, claims := (endTxn p o s).claims, txns := (endTxn p o s).txns,
        commitQueue := (endTxn p o s).commitQueue, sessions := (endTxn p o s).sessions,
        raised := (endTxn p o s).raised } := by
  unfold endTxn raiseOutcome
  dsimp only
  split
  · rw [offerOutcome_frame, raise_frame]; rfl
  · rw [raise_frame]; rfl

/-- The record of a transaction that ends is NONE, with the empty values (05 R106 (d)). -/
theorem endTxn_txns (p : Port) (o : TxnOutcome) (s : State) : (endTxn p o s).txns = s.txns.set p Txn.empty := by
  unfold endTxn raiseOutcome
  dsimp only
  split
  · rw [offerOutcome_frame, raise_frame]; rfl
  · rw [raise_frame]; rfl

/-- Its entries leave, or become RECOVERY entries (05 R89, R106 (a)). -/
theorem endTxn_sb (p : Port) (o : TxnOutcome) (s : State) : (endTxn p o s).sb = entriesAfter p o s.sb := by
  unfold endTxn raiseOutcome
  dsimp only
  split
  · rw [offerOutcome_frame, raise_frame]; rfl
  · rw [raise_frame]; rfl

theorem endTxn_commitQueue (p : Port) (o : TxnOutcome) (s : State) :
    (endTxn p o s).commitQueue = s.commitQueue.filter (fun q => decide (q ≠ p)) := by
  unfold endTxn raiseOutcome
  dsimp only
  split
  · rw [offerOutcome_frame, raise_frame]; rfl
  · rw [raise_frame]; rfl

/-- Its claims are released (05 R96). -/
theorem endTxn_claim (p : Port) (o : TxnOutcome) (s : State) (w : Fin 16) :
    (endTxn p o s).claim w = releaseClaim p (s.claim w) := by
  have h : (endTxn p o s).claims = (releaseClaims p s).claims := by
    unfold endTxn raiseOutcome
    dsimp only
    split
    · rw [offerOutcome_frame, raise_frame]; rfl
    · rw [raise_frame]; rfl
  simp [State.claim, h, releaseClaims]

/-! ### The journal engine (chapter 6) -/

theorem placeWord_frame (role : WordRole) (s : State) :
    placeWord role s =
      { s with engine := (placeWord role s).engine, waiting := (placeWord role s).waiting } := rfl

theorem endEngine_frame (e : EngineState) (s : State) :
    endEngine e s = { s with engine := (endEngine e s).engine, waiting := (endEngine e s).waiting } := rfl

theorem endCurrent_frame (o : TxnOutcome) (s : State) :
    endCurrent o s =
      { s with
        sb := (endCurrent o s).sb, claims := (endCurrent o s).claims, txns := (endCurrent o s).txns,
        commitQueue := (endCurrent o s).commitQueue, sessions := (endCurrent o s).sessions,
        raised := (endCurrent o s).raised } := by
  unfold endCurrent
  split
  · rw [endTxn_frame]
  · rfl
  · rfl

theorem endLogging_frame (s : State) :
    endLogging s =
      { s with
        sb := (endLogging s).sb, claims := (endLogging s).claims, txns := (endLogging s).txns,
        commitQueue := (endLogging s).commitQueue, sessions := (endLogging s).sessions,
        raised := (endLogging s).raised, engine := (endLogging s).engine, waiting := (endLogging s).waiting } := by
  unfold endLogging
  rw [endEngine_frame, endCurrent_frame]

theorem settleStop_frame (s : State) :
    settleStop s =
      { s with
        sb := (settleStop s).sb, claims := (settleStop s).claims, txns := (settleStop s).txns,
        commitQueue := (settleStop s).commitQueue, sessions := (settleStop s).sessions,
        raised := (settleStop s).raised, engine := (settleStop s).engine, waiting := (settleStop s).waiting } := by
  unfold settleStop
  split
  · split
    · rfl
    · exact endLogging_frame s
  · exact endLogging_frame s

theorem stopEngine_frame (c : StopCause) (s : State) :
    stopEngine c s =
      { s with
        sb := (stopEngine c s).sb, claims := (stopEngine c s).claims, txns := (stopEngine c s).txns,
        commitQueue := (stopEngine c s).commitQueue, sessions := (stopEngine c s).sessions,
        raised := (stopEngine c s).raised, engine := (stopEngine c s).engine,
        waiting := (stopEngine c s).waiting } := by
  unfold stopEngine
  dsimp only
  split
  · rfl
  · split
    · rfl
    · rw [settleStop_frame]; rfl

/-- The take touches the commit queue, the transaction records, the engine and its request (06 R117). -/
theorem engineTake_frame (s : State) :
    engineTake s =
      { s with
        commitQueue := (engineTake s).commitQueue, txns := (engineTake s).txns,
        engine := (engineTake s).engine, waiting := (engineTake s).waiting } := by
  unfold engineTake
  split <;> rfl

/-! ### Recognizers (chapter 2) -/

theorem enterLockout_frame (p : Port) (c : Word) (s : State) :
    enterLockout p c s = { s with sqr := (enterLockout p c s).sqr, raised := (enterLockout p c s).raised } := by
  unfold enterLockout
  rw [raise_frame]; rfl

theorem countBreak_frame (p : Port) (c : Word) (q : Sqr) (s : State) :
    countBreak p c q s = { s with sqr := (countBreak p c q s).sqr, raised := (countBreak p c q s).raised } := by
  unfold countBreak
  dsimp only
  split
  · rw [enterLockout_frame]; rfl
  · rfl

theorem openSession_frame (p : Port) (k : Fin 4) (s : State) :
    openSession p k s =
      { s with sessions := (openSession p k s).sessions, raised := (openSession p k s).raised } := by
  unfold openSession
  rw [raise_frame]; rfl

/-- An observed write touches the recognizers, the sessions and the raised events, and nothing else (02 R29 to R36). -/
theorem takeWrite_frame (p : Port) (x : Addr) (d : Word) (s : State) :
    takeWrite p x d s =
      { s with
        sqr := (takeWrite p x d s).sqr, sessions := (takeWrite p x d s).sessions,
        raised := (takeWrite p x d s).raised } := by
  unfold takeWrite
  dsimp only
  split
  · unfold completeKey; rw [openSession_frame]; rfl
  · split
    · rw [countBreak_frame]
    · rfl

theorem observe_frame (p : Port) (x : Addr) (d : Word) (s : State) :
    observe p x d s =
      { s with
        sqr := (observe p x d s).sqr, sessions := (observe p x d s).sessions,
        raised := (observe p x d s).raised } := by
  unfold observe
  split
  · rw [takeWrite_frame]
  · rfl

/-! ### The end of a session (03 R65) -/

theorem releaseTxn_frame (p : Port) (s : State) :
    releaseTxn p s =
      { s with
        sb := (releaseTxn p s).sb, claims := (releaseTxn p s).claims, txns := (releaseTxn p s).txns,
        commitQueue := (releaseTxn p s).commitQueue, sessions := (releaseTxn p s).sessions,
        raised := (releaseTxn p s).raised } := by
  unfold releaseTxn
  split
  · rw [endTxn_frame]
  · rfl

theorem closeSession_frame (p : Port) (c : SessionCause) (s : State) :
    closeSession p c s =
      { s with
        sb := (closeSession p c s).sb, claims := (closeSession p c s).claims, txns := (closeSession p c s).txns,
        commitQueue := (closeSession p c s).commitQueue, sessions := (closeSession p c s).sessions,
        raised := (closeSession p c s).raised, leases := (closeSession p c s).leases,
        sqr := (closeSession p c s).sqr } := by
  unfold closeSession
  obtain ⟨l, r, h⟩ : ∃ l r, endLeasesOf p (leaseCauseOf c) s = { s with leases := l, raised := r } :=
    ⟨_, _, endLeasesOf_frame p (leaseCauseOf c) s⟩
  obtain ⟨sb, cl, tx, cq, se, r', h'⟩ : ∃ sb cl tx cq se r', releaseTxn p { s with leases := l, raised := r } =
      { s with leases := l, sb := sb, claims := cl, txns := tx, commitQueue := cq, sessions := se, raised := r' } :=
    ⟨_, _, _, _, _, _, releaseTxn_frame p { s with leases := l, raised := r }⟩
  simp only [h, h']
  rw [raise_frame]; rfl

theorem endSession_frame (p : Port) (c : SessionCause) (s : State) :
    endSession p c s =
      { s with
        sb := (endSession p c s).sb, claims := (endSession p c s).claims, txns := (endSession p c s).txns,
        commitQueue := (endSession p c s).commitQueue, sessions := (endSession p c s).sessions,
        raised := (endSession p c s).raised, leases := (endSession p c s).leases,
        sqr := (endSession p c s).sqr } := by
  unfold endSession
  split
  · rw [closeSession_frame]
  · rfl

/-! ### Cycles (chapter 10) -/

theorem completeCycle_frame (p : Port) (a : Option Word) (s : State) :
    completeCycle p a s = { s with ports := (completeCycle p a s).ports } := rfl

/-- A settled write touches the port, the recognizers, the sessions and the raised events (10 Table 10-2). -/
theorem settleWrite_frame (p : Port) (x : Addr) (d : Word) (s : State) :
    settleWrite p x d s =
      { s with
        ports := (settleWrite p x d s).ports, sqr := (settleWrite p x d s).sqr,
        sessions := (settleWrite p x d s).sessions, raised := (settleWrite p x d s).raised } := by
  unfold settleWrite
  rw [completeCycle_frame, observe_frame]

/-! ### The step -/

/-- The step takes the front command and performs it on the state with the queue's rest. -/
theorem step_cons (s : State) (c : Instr) (rest : List Instr) (h : s.pending = c :: rest) :
    step s = exec c { s with pending := rest } := by
  simp [step, h]

theorem step_nil (s : State) (h : s.pending = []) : step s = .next (tick s) := by
  simp [step, h]

end Sys2Proof.Machine
end

