-- ==== Sys2Proof/Laws/Cycles.lean ====
section
/-! SUPPORT. What the forms of the statements come to: what raising an event adds, what a settled stop and the end of
recovery leave, what a cycle that the part settles leaves, and what a command word of a session comes to. -/

namespace Sys2Proof.Machine

/-! ### Events and the engine -/

/-- Raising an event adds to those that wait exactly what its audience is told (09 R171). -/
theorem raise_told (n : EventName) (who : Concerned) (w : Option (Fin 16)) (hi lo : Word) (s : State) :
    raise n who w hi lo s = { s with raised := s.raised ++ s.told n who w hi lo } := by
  unfold raise State.told PerPort.some
  cases h : (s.audience who).a || (s.audience who).b <;> simp only [h] <;> simp [State.noticeOf]

/-- A settled stop begins a restoring write or ends the transaction by the first cause (06 R124). -/
theorem settleStop_stoppedWith (p : Port) (w : WordInHand) (first : StopCause) (s : State)
    (word : s.engine.word = some w) (current : s.engine.current = some (.port p)) (stop : s.engine.stop = some first) :
    settleStop s = s.stoppedWith p w first := by
  have kept : ({ s.engine with stop := some first, restoring := true } : Engine) =
      { s.engine with restoring := true } := by rw [← stop]
  have same : (endTxn p (stopOutcome first) s).engine = s.engine := by rw [endTxn_frame]
  have waits : (endTxn p (stopOutcome first) s).waiting = s.waiting := by rw [endTxn_frame]
  unfold settleStop State.stoppedWith
  rw [word]
  dsimp only
  split
  · rw [beginRestoring, kept]
    rfl
  · cases first <;>
      simp only [endLogging, endCurrent, current, stop, loggingOutcome, stopOutcome] at same waits ⊢ <;>
      simp only [endEngine, Engine.atRest, State.setEngine, State.setEngineRequest, same, waits]

/-- The end of recovery leaves the engine with the numbers of the header found (07 R153). -/
theorem endRecovery_recovered (e : EngineState) (r : RecoveryResult) (s : State) :
    endRecovery e r s = s.recovered e r := by
  by_cases logged : s.headerRead 0 = 0xA55A#16 <;> by_cases clear : s.headerRead 0 = 0x5AA5#16 <;>
    simp [endRecovery, State.recovered, recoveredEngine, State.unformatted, Config.loggedWord, Config.clearWord,
      endEngine, Engine.atRest, State.setEngine, State.setEngineRequest, logged, clear]

/-! ### Cycles and command words -/

@[simp] theorem verbByte_commandWord (v o : Byte) : verbByte (commandWord v o) = v := by
  apply BitVec.eq_of_getLsbD_eq
  intro i hi
  have h : (v ++ o).getLsbD (8 + i) = v.getLsbD i := by
    rw [BitVec.getLsbD_append]
    simp
  simp only [verbByte, commandWord, BitVec.getLsbD_extractLsb', hi, decide_true, Bool.true_and]
  exact h

@[simp] theorem operandByte_commandWord (v o : Byte) : operandByte (commandWord v o) = o := by
  apply BitVec.eq_of_getLsbD_eq
  intro i hi
  have h : (v ++ o).getLsbD (0 + i) = o.getLsbD i := by
    rw [BitVec.getLsbD_append]
    simp [hi]
  simp only [operandByte, commandWord, BitVec.getLsbD_extractLsb', hi, decide_true, Bool.true_and]
  exact h

/-- A port that takes a cycle is HELD while the cycle is settled (10 R181). -/
theorem clientCycle_taken (p : Port) (kind : AccessKind) (x : Addr) (gone : Bool) (s : State) (h : s.canTake p) :
    clientCycle p kind x gone s = settleCycle p kind x (s.setPort p (heldPort kind x gone (s.ports.get p))) := by
  simp [clientCycle, h.1, h.2]

/-- Outside IDLE no cycle is taken (10 R181). -/
theorem clientCycle_busy (p : Port) (kind : AccessKind) (x : Addr) (gone : Bool) (s : State)
    (h : (s.ports.get p).state ≠ .idle) : clientCycle p kind x gone s = s := by
  simp [clientCycle, h]

/-- After READY a cycle is decided, with the idle timer started afresh (01 R11, 03 R46). -/
theorem settleCycle_ready (p : Port) (kind : AccessKind) (x : Addr) (s : State) (h : s.stage = .operating) :
    settleCycle p kind x s = decideAccess p kind x s := by
  simp [settleCycle, State.ready, h]

/-- A cycle that is held when its course is complete (10 R182, R183). -/
theorem completedPort_closed (a : Option Word) (c : ClientPort) (y : Cycle) (h : c.cycle = some y) :
    completedPort a c = closedPort y a c := by
  cases c
  cases h
  rfl

/-- A cycle complete in the step that takes it (10 R182, R183). -/
theorem completedPort_held (kind : AccessKind) (x : Addr) (gone : Bool) (a : Option Word) (c : ClientPort) :
    completedPort a (heldPort kind x gone c) = endedPort kind x gone a c := by
  cases gone <;> rfl

/-- An access that is no command access is judged by steps 3 to 6 (01 R11). -/
theorem decideAccess_memory (p : Port) (kind : AccessKind) (x : Addr) (s : State)
    (h : x = s.commandAddress p → s.sessions.get p = none) :
    decideAccess p kind x s = judgeAccess p kind x (restartIdle p s) := by
  have hs : (restartIdle p s).sessionAt p x = none := by
    unfold restartIdle
    cases hy : s.sessions.get p with
    | none => simp only [State.sessionAt, hy]; split <;> rfl
    | some y =>
      have hx : x ≠ s.commandAddress p := by
        intro e
        rw [h e] at hy
        cases hy
      have hx' : x ≠ (s.setSession p (some { y with idleTimer := s.idleInterval })).commandAddress p := hx
      simp only [State.sessionAt, if_neg hx']
  simp only [decideAccess, hs]

/-- A command word of a session that can take a cycle (03 R48): the state with the cycle HELD and the idle timer
restarted goes to the session controller, and the cycle then ends. -/
theorem commandCycle_session (p : Port) (v o : Byte) (gone : Bool) (s : State) (y : Session)
    (need : Nat) (h : s.takesVerb p y need) :
    commandCycle p v o gone s =
      completeCycle p none (performCommand p { y with idleTimer := s.idleInterval } (commandWord v o)
        ((s.setPort p (heldPort (.write (commandWord v o)) (s.commandAddress p) gone (s.ports.get p))).setSession p
          (some { y with idleTimer := s.idleInterval }))) := by
  obtain ⟨ht, hr, hy, _⟩ := h
  unfold commandCycle
  rw [clientCycle_taken p _ _ _ s ht, settleCycle_ready _ _ _ _ (by simpa using hr)]
  have hrs : restartIdle p
        (s.setPort p (heldPort (.write (commandWord v o)) (s.commandAddress p) gone (s.ports.get p))) =
      (s.setPort p (heldPort (.write (commandWord v o)) (s.commandAddress p) gone (s.ports.get p))).setSession p
          (some { y with idleTimer := s.idleInterval }) := by
    simp [restartIdle, hy, State.idleInterval, State.active]
  simp only [decideAccess, hrs]
  have hat : ((s.setPort p (heldPort (.write (commandWord v o)) (s.commandAddress p) gone (s.ports.get p))).setSession p
          (some { y with idleTimer := s.idleInterval })).sessionAt p (s.commandAddress p) =
        some { y with idleTimer := s.idleInterval } := by
    simp [State.sessionAt, State.commandAddress, State.active]
  simp only [hat, takeCommandAccess]

end Sys2Proof.Machine
end

