-- ==== Sys2Proof/Laws/Memory.lean ====
section
/-! SUPPORT. The guarded memory: reading after writing, and the canonical form kept by every write. -/

namespace Sys2Proof.Machine

theorem memRead_memCons (a b : Nat) (w : Word) (m : Memory) :
    memRead (memCons a w m) b = if w = Config.unlistedWord then memRead m b else if a = b then w else memRead m b := by
  unfold memCons
  split <;> simp [memRead]

/-- A word other than the one written reads as before. -/
theorem memRead_memWrite_other (m : Memory) (a b : Nat) (w : Word) (h : b ≠ a) :
    memRead (memWrite m a w) b = memRead m b := by
  induction m with
  | nil => simp [memWrite, memRead_memCons, Ne.symm h, memRead]
  | cons c rest ih =>
    unfold memWrite
    split
    · simp [memRead_memCons, Ne.symm h]
    · split
      · next _ hc =>
        have hb : c.1 ≠ b := fun e => h (e ▸ hc.symm)
        simp [memRead_memCons, Ne.symm h, memRead, hb]
      · simp only [memRead, ih]

/-- Below the lowest address a canonical memory may list, every word is unlisted. -/
theorem memRead_below (low b : Nat) (m : Memory) (h : memWfFrom low m = true) (hb : b < low) :
    memRead m b = Config.unlistedWord := by
  induction m generalizing low with
  | nil => rfl
  | cons c rest ih =>
    simp only [memWfFrom, Bool.and_eq_true, decide_eq_true_eq] at h
    have hc : c.1 ≠ b := by omega
    simp only [memRead, hc, if_false]
    exact ih (c.1 + 1) h.2 (by omega)

/-- The word written is read back. -/
theorem memRead_memWrite_same_from (low : Nat) (m : Memory) (a : Nat) (w : Word) (h : memWfFrom low m = true) :
    memRead (memWrite m a w) a = w := by
  induction m generalizing low with
  | nil =>
    simp only [memWrite, memRead_memCons, memRead]
    split
    · next hw => exact hw.symm
    · simp
  | cons c rest ih =>
    simp only [memWfFrom, Bool.and_eq_true, decide_eq_true_eq] at h
    unfold memWrite
    split
    · next hlt =>
      simp only [memRead_memCons]
      split
      · next hw =>
        have hc : c.1 ≠ a := by omega
        simp only [memRead, hc, if_false]
        rw [memRead_below (c.1 + 1) a rest h.2 (by omega), hw]
      · simp
    · split
      · next _ hac =>
        simp only [memRead_memCons]
        split
        · next hw => rw [memRead_below (c.1 + 1) a rest h.2 (by omega), hw]
        · simp
      · next _ hne =>
        have hc : c.1 ≠ a := fun e => hne e.symm
        simp only [memRead, hc, if_false]
        exact ih (c.1 + 1) h.2

theorem memRead_memWrite_same (m : Memory) (a : Nat) (w : Word) (h : Memory.wf m = true) :
    memRead (memWrite m a w) a = w :=
  memRead_memWrite_same_from 0 m a w h

theorem memWfFrom_le (low low' : Nat) (m : Memory) (hle : low' ≤ low) (h : memWfFrom low m = true) :
    memWfFrom low' m = true := by
  cases m with
  | nil => rfl
  | cons c rest =>
    simp only [memWfFrom, Bool.and_eq_true, decide_eq_true_eq] at h ⊢
    exact ⟨⟨⟨by omega, h.1.1.2⟩, h.1.2⟩, h.2⟩

theorem memWfFrom_memCons (low a : Nat) (w : Word) (m : Memory) (hlow : low ≤ a) (ha : a < Config.memoryWords)
    (h : memWfFrom (a + 1) m = true) : memWfFrom low (memCons a w m) = true := by
  unfold memCons
  split
  · exact memWfFrom_le (a + 1) low m (by omega) h
  · next hw =>
    simp only [memWfFrom, Bool.and_eq_true, decide_eq_true_eq]
    exact ⟨⟨⟨hlow, ha⟩, hw⟩, h⟩

theorem memWfFrom_memWrite (low : Nat) (m : Memory) (a : Nat) (w : Word) (hlow : low ≤ a)
    (ha : a < Config.memoryWords) (h : memWfFrom low m = true) : memWfFrom low (memWrite m a w) = true := by
  induction m generalizing low with
  | nil => exact memWfFrom_memCons low a w [] hlow ha rfl
  | cons c rest ih =>
    have h' := h
    simp only [memWfFrom, Bool.and_eq_true, decide_eq_true_eq] at h
    unfold memWrite
    split
    · next hlt =>
      refine memWfFrom_memCons low a w _ hlow ha ?_
      simp only [memWfFrom, Bool.and_eq_true, decide_eq_true_eq]
      exact ⟨⟨⟨by omega, h.1.1.2⟩, h.1.2⟩, h.2⟩
    · split
      · next _ hac => exact memWfFrom_memCons low a w rest hlow ha (hac ▸ h.2)
      · next hnl hne =>
        simp only [memWfFrom, Bool.and_eq_true, decide_eq_true_eq]
        exact ⟨h.1, ih (c.1 + 1) (by omega) h.2⟩

/-- A write inside the memory keeps the canonical form. -/
theorem memWrite_wf (m : Memory) (a : Nat) (w : Word) (ha : a < Config.memoryWords) (h : Memory.wf m = true) :
    Memory.wf (memWrite m a w) = true :=
  memWfFrom_memWrite 0 m a w (Nat.zero_le a) ha h

/-- Every word address lies inside the memory. -/
theorem addr_lt_memoryWords (x : Addr) : x.toNat < Config.memoryWords := x.isLt

theorem writeWord_wf (s : State) (x : Addr) (w : Word) (h : Memory.wf s.memory = true) :
    Memory.wf (s.writeWord x w).memory = true :=
  memWrite_wf s.memory x.toNat w (addr_lt_memoryWords x) h

/-- Equal reads of canonical memories are equal memories: the form holds each memory once. -/
theorem memory_eq_of_reads_from (low : Nat) (m n : Memory) (hm : memWfFrom low m = true)
    (hn : memWfFrom low n = true) (h : ∀ a, memRead m a = memRead n a) : m = n := by
  induction m generalizing low n with
  | nil =>
    cases n with
    | nil => rfl
    | cons d rest =>
      simp only [memWfFrom, Bool.and_eq_true, decide_eq_true_eq] at hn
      have := h d.1
      simp only [memRead, if_true] at this
      exact absurd this.symm hn.1.2
  | cons c rest ih =>
    simp only [memWfFrom, Bool.and_eq_true, decide_eq_true_eq] at hm
    cases n with
    | nil =>
      have := h c.1
      simp only [memRead, if_true] at this
      exact absurd this hm.1.2
    | cons d rest' =>
      simp only [memWfFrom, Bool.and_eq_true, decide_eq_true_eq] at hn
      have hcd : c.1 = d.1 := by
        rcases Nat.lt_trichotomy c.1 d.1 with hlt | heq | hgt
        · have h1 := h c.1
          have hne : d.1 ≠ c.1 := by omega
          simp only [memRead, if_true, hne, if_false] at h1
          rw [memRead_below (d.1 + 1) c.1 rest' hn.2 (by omega)] at h1
          exact absurd h1 hm.1.2
        · exact heq
        · have h1 := h d.1
          have hne : c.1 ≠ d.1 := by omega
          simp only [memRead, if_true, hne, if_false] at h1
          rw [memRead_below (c.1 + 1) d.1 rest hm.2 (by omega)] at h1
          exact absurd h1.symm hn.1.2
      have hval : c.2 = d.2 := by
        have h1 := h c.1
        simp only [memRead, if_true, ← hcd] at h1
        exact h1
      have hc : c = d := Prod.ext hcd hval
      subst hc
      congr 1
      refine ih (c.1 + 1) rest' hm.2 hn.2 ?_
      intro a
      by_cases ha : c.1 = a
      · subst ha
        rw [memRead_below (c.1 + 1) c.1 rest hm.2 (by omega), memRead_below (c.1 + 1) c.1 rest' hn.2 (by omega)]
      · have h1 := h a
        simpa only [memRead, ha, if_false] using h1

theorem memory_eq_of_reads (m n : Memory) (hm : Memory.wf m = true) (hn : Memory.wf n = true)
    (h : ∀ a, memRead m a = memRead n a) : m = n :=
  memory_eq_of_reads_from 0 m n hm hn h

end Sys2Proof.Machine
end

