-- ==== Sys2Proof/Tests/Slice0.lean ====
section
/-! SUPPORT. Small checks of the model on fixed states: the well-formedness check, one or two steps for each command,
and, for each statement that has hypotheses, a state and operands that meet them. -/

namespace Sys2Proof.Tests

open Sys2Proof.Machine

set_option Elab.async false

/-! ### A profile and states to try the commands on -/

/-- Windows 0 guarded, 1 and 4 open and transactional, 2 read-only, 3 hidden and for port A only; the background is
open and the journal area has 16 entries at 0x8000. Key 0 has three steps. -/
def plan : Profile := { noProfile with
  background := .openAccess, fill := 0xEEEE#16, command := { a := 0xFF00#20, b := 0xFF01#20 },
  stepTime := 50#16, breakLimit := 3#16, lockoutTime := 4#16, sessionIdle := 100#16,
  journalBase := 0x8000#20, journalCapacity := 16#16, verify := true,
  readers := { a := true, b := true }, alertDefault := { a := 0xFF#8, b := 0xFF#8 },
  windows := (((((Vector.replicate 16 emptyWindow).set 0 { emptyWindow with
      enable := true, base := 0x1000#20, limit := 0x1FFF#20, policy := .guarded, keyMask := 1#4,
      ports := { a := true, b := true }, lifetime := 7#16, budget := 2#16, holdoff := 3#12 }).set 1 { emptyWindow with
      enable := true, base := 0x2000#20, limit := 0x2FFF#20, transactional := true,
      ports := { a := true, b := true } }).set 2 { emptyWindow with
      enable := true, base := 0x3000#20, limit := 0x3FFF#20, policy := .readOnly,
      ports := { a := true, b := true } }).set 3 { emptyWindow with
      enable := true, base := 0x4000#20, limit := 0x4FFF#20, policy := .hidden,
      ports := { a := true, b := false } }).set 4 { emptyWindow with
      enable := true, base := 0x5000#20, limit := 0x5FFF#20, transactional := true,
      ports := { a := true, b := true } },
  keys := (Vector.replicate 4 disabledKey).set 0 { disabledKey with
    stepCount := 3#4, txn := true, events := true,
    steps := (((Vector.replicate 8 emptyStep).set 0 { addr := 0x100#20, value := 0x1111#16, mask := 0xFFFF#16 }).set 1
      { addr := 0x101#20, value := 0x2222#16, mask := 0xFFFF#16 }).set 2
      { addr := 0x102#20, value := 0x3333#16, mask := 0xFF00#16 } } }

/-- The part after READY under that profile. -/
def ready : State := { State.reset with
  resetn := true, pwrgood := true, stage := .operating, profile := some plan, profileStatus := .valid,
  alertMask := { a := 0xFF#8, b := 0xFF#8 } }

/-- The session that key 0 opens. -/
def session : Session :=
  { key := 0, txn := true, events := true, idleTimer := .running 10000, responses := [], overrun := false,
    awaited := false }

/-- Port A has that session, or one with other contents. -/
def inSession (y : Session) : State :=
  (ready.setSession .a (some y)).setSqr .a { Sqr.fresh with state := .session }

/-- The lease of port A on window 0. -/
def lease : LeaseRecord :=
  { holder := .a, key := 0, budget := some 1#16, lifetime := .running 70, count := 4#16 }

/-- Port A in session with window 0 LEASED to it. -/
def leased : State := (inSession session).setLease 0 (.leased lease)

/-- An entry of port A in window 1. -/
def entry : Entry := { owner := .port .a, addr := 0x2004#20, data := 0xBEEF#16, position := 0 }

/-- Port A in session with a transaction in a state, holding that entry. -/
def holding (t : TxnState) (number : Option Word) : State :=
  (({ inSession session with sb := [entry] }.setClaim 1 (some .a)).setTxn .a
    { state := t, number := number, linked := true })

/-- The engine at work on port A's transaction, number 6. -/
def working (t : TxnState) (e : EngineState) : State :=
  (holding t (some 6#16)).setEngine { Engine.fresh with
    state := e, current := some (.port .a), nextNumber := 6#16, lastCleared := 5#16 }

/-- A word in hand of the engine. -/
def handed (role : WordRole) (attempt : Nat) (granted : Bool) : WordInHand :=
  { role := role, addr := 0x8000#20, value := 0xA55A#16, attempt := attempt, granted := granted }

/-- The engine in LOGGING with a word in hand and, it may be, an access in flight. -/
def logging (w : WordInHand) (kind : Option AccessKind) : State :=
  let s := working .logging .logging
  { s with
    engine := { s.engine with word := some w },
    inFlight := kind.map (fun k => { holder := .engine, kind := k, addr := w.addr }) }

/-- Port P holds a cycle that waits for the memory port. -/
def waitingFor (p : Port) (kind : AccessKind) (x : Addr) : State := ready.withWaiting p kind x false

/-- The record of a cycle under way. -/
def cycle (kind : AccessKind) (x : Addr) : Cycle := { kind := kind, addr := x, answer := none, abandoned := false }

/-- Port P's forwarded access is in flight. -/
def forwardedNow (p : Port) (kind : AccessKind) (x : Addr) : State :=
  { ready.setPort p { state := .held, early := 0#16, cycle := some (cycle kind x) } with
    inFlight := some { holder := .client p, kind := kind, addr := x }, lastGranted := .client p }

/-- The part during the profile read, with some words read. -/
def readingProfile (ws : List Word) : State := { State.reset with
  resetn := true, pwrgood := true, stage := .profileRead, candidate := ws,
  inFlight := some { holder := .engine, kind := .read, addr := BitVec.ofNat 20 ws.length } }

/-- The part during journal recovery, at a pass, with the words read so far and a word at 0x8004 of memory. -/
def recovering (r : Recovery) (w : Word) : State := { State.reset with
  resetn := true, pwrgood := true, stage := .recovery, profile := some plan, profileStatus := .valid,
  recovery := r, engine := { Engine.fresh with state := .replayLoad },
  inFlight := some { holder := .engine, kind := .read, addr := 0x8004#20 },
  memory := memWrite [] 0x8004 w }

/-- The part FENCED with PWRGOOD low. -/
def fenced : State := { ready with fence := .fenced, pwrgood := false, absorbed := 9#16 }

/-- A record of the event queue. -/
def record (audience : PerPort Bool) (name : EventName) : EventRecord :=
  { seq := 5#16, time := 77#16, notice :=
    { name := name, who := .port .b, window := some 2, hi := 1#16, lo := 2#16, audience := audience } }

/-- The state after a command. -/
def after (c : Instr) (s : State) : State :=
  match exec c s with
  | .next t => t
  | .fault _ => s
  | .refused _ => s

/-- The names of the events raised and not yet taken. -/
def raisedNames (s : State) : List EventName := s.raised.map Notice.name

/-! ### Well-formedness -/

/-- A BADVERB row with a verb byte of Table 3-2 is refused; 0x00 and 0x0A are the row's nearest bytes. -/
theorem test_wellFormed :
    (Instr.badVerb ⟨.a, false⟩ 0x01#8 0#8).wellFormed = false ∧ (Instr.badVerb ⟨.b, false⟩ 0x09#8 0#8).wellFormed = false ∧
    (Instr.badVerb ⟨.a, false⟩ 0x00#8 0#8).wellFormed = true ∧ (Instr.badVerb ⟨.b, false⟩ 0x0A#8 0#8).wellFormed = true ∧
    (Instr.clientRead ⟨.a, false⟩ 0#20).wellFormed = true := by decide

/-- No row of the table has bits, so no word spells a command. -/
theorem test_decode : decodeTableWord 16 0 = none ∧ decodeTableWord 0 0 = none := by decide

/-- The step takes the front of the queue; on an empty queue the time base counts. -/
theorem test_step :
    (match step { ready with pending := [.pwrgoodRise, .eventArrival] } with
      | .next t => t.pending
      | _ => []) = [.eventArrival] ∧
    (match step ready with
      | .next t => t.timeBase
      | _ => 0#16) = 1#16 := by decide +kernel

/-! ### Words and sums -/

/-- The CRC of no word is the start value; the check words of CRC-16 with 0x1021 over the bytes 31 to 38. -/
theorem test_crc : crc16 [] = 0xFFFF#16 ∧ crc16 [0x3132#16, 0x3334#16, 0x3536#16, 0x3738#16] = 0xA12B#16 := by
  decide +kernel

/-- Words at the command address: a response, an outcome, a status word (11 section 11.4). -/
theorem test_words :
    responseWord 0x01#8 .conflict = 0x0103#16 ∧ outcomeWord .committed = 0xC010#16 ∧
    outcomeWord .engineFault = 0xC017#16 ∧ sessionStatusWord 2 true false .queued = 0x8283#16 := by decide +kernel

/-! ### Supply, reset and start-up -/

/-- POWER_UP with PWRGOOD high requests profile word 0; with PBYP high READY rises at once. -/
theorem test_powerUp :
    (after (.powerUp false true true) State.reset).waiting.engine = some { kind := .read, addr := 0#20 } ∧
    raisedNames (after (.powerUp true false true) State.reset) = [.bypass, .started, .fenceEntered] := by
  decide +kernel

/-- RESETN_RISE with PWRGOOD low waits. -/
theorem test_resetnRise : (after (.resetnRise false false) State.reset).stage = .waitPwrgood := by decide +kernel

/-- RESETN_FALL completes the write under way and the held cycle. -/
theorem test_resetnFall :
    memRead (after (.resetnFall .sound) (forwardedNow .a (.write 0x1234#16) 0x7000#20)).memory 0x7000 = 0x1234#16 ∧
    ((after (.resetnFall .sound) (forwardedNow .a .read 0x7000#20)).ports.get .a).cycle.map Cycle.answer =
      some (some 0xFFFF#16) := by decide +kernel

/-- SUPPLY_LOSS leaves the word old or new. -/
theorem test_supplyLoss :
    memRead (after (.supplyLoss false) (forwardedNow .a (.write 0x1234#16) 0x7000#20)).memory 0x7000 = 0#16 ∧
    memRead (after (.supplyLoss true) (forwardedNow .a (.write 0x1234#16) 0x7000#20)).memory 0x7000 = 0x1234#16 := by
  decide +kernel

/-- PWRGOOD_WAIT_END begins the profile read. -/
theorem test_pwrgoodWaitEnd :
    (after .pwrgoodWaitEnd { State.reset with resetn := true, stage := .waitPwrgood }).stage = .profileRead := by
  decide +kernel

/-- PROFILE_WORD_READ asks for the next word; a memory of zeros fails the signature check at the last. -/
theorem test_profileWordRead :
    (after (.profileWordRead .sound) (readingProfile [0x5744#16])).waiting.engine =
      some { kind := .read, addr := 2#20 } ∧
    (after (.profileWordRead .sound) (readingProfile (List.replicate 271 0#16))).profileStatus =
      .rejected .signature := by decide +kernel

/-- JOURNAL_HEADER_READ: a CLEAR header takes its numbers; one that is neither is formatted. -/
theorem test_journalHeaderRead :
    (after .journalHeaderRead (recovering
      { Recovery.fresh with phase := .header, header := [0x5AA5#16, 0xFFFF#16, 1#16, 2#16] } 3#16)).engine =
      { Engine.fresh with nextNumber := 0#16, lastCleared := 0xFFFF#16 } ∧
    (after .journalHeaderRead (recovering
      { Recovery.fresh with phase := .header, header := [0#16, 0#16, 0#16, 0#16] } 3#16)).waiting.engine =
      some { kind := .write 0#16, addr := 0x8001#20 } := by decide +kernel

/-- JOURNAL_SLOT_CHECK_READ: a slot without its marker is damage. -/
theorem test_journalSlotCheckRead :
    raisedNames (after .journalSlotCheckRead (recovering { Recovery.fresh with
      phase := .check, header := [0xA55A#16, 1#16, 1#16, 0#16, 0#16], slots := [0#16, 0#16] } 3#16)) =
      [.journalDamaged] := by decide +kernel

/-- REPLAY_LOAD_READ: the third word of a slot joins an entry, and the home write begins. -/
theorem test_replayLoadRead :
    (after .replayLoadRead ((recovering { Recovery.fresh with
      phase := .load, header := [0xA55A#16, 1#16, 1#16, 0#16, 0#16], loaded := [0xE001#16, 0x2345#16] }
      0xCAFE#16).setEngine { Engine.fresh with state := .replayLoad, current := some .recovery })).waiting.engine =
      some { kind := .write 0xCAFE#16, addr := 0x12345#20 } := by decide +kernel

/-! ### The memory port and the engine -/

/-- MEMORY_PORT_GRANT: after port A's grant port B comes first; the engine after it. -/
theorem test_memoryPortGrant :
    (after .memoryPortGrant { (waitingFor .a .read 0x7000#20).withWaiting .b .read 0x7001#20 false with
      lastGranted := .client .a }).inFlight =
      some { holder := .client .b, kind := .read, addr := 0x7001#20 } ∧
    (after .memoryPortGrant ({ waitingFor .a .read 0x7000#20 with lastGranted := .client .b }.setEngineRequest
      (some { kind := .read, addr := 1#20 }))).lastGranted = .engine := by decide +kernel

/-- FORWARDED_READ_COMPLETE answers the cycle with the word. -/
theorem test_forwardedReadComplete :
    (after (.forwardedReadComplete .sound) { forwardedNow .b .read 0x7000#20 with
      memory := memWrite [] 0x7000 0x55AA#16 }).dataOut .b = some 0x55AA#16 := by decide +kernel

/-- FORWARDED_WRITE_COMPLETE writes the word and spends the last lease unit. -/
theorem test_forwardedWriteComplete :
    memRead (after (.forwardedWriteComplete .sound) (forwardedNow .a (.write 7#16) 0x7000#20)).memory 0x7000 = 7#16 ∧
    (after (.forwardedWriteComplete .sound) ((forwardedNow .a (.write 7#16) 0x1000#20).setLease 0
      (.leased lease))).lease 0 = .holdoff 300 := by decide +kernel

/-- ENGINE_TAKE numbers the head of the queue and places word 0 of slot 0 in hand. -/
theorem test_engineTake :
    ((after .engineTake { holding .queued none with commitQueue := [.a] }).txns.get .a).number = some 1#16 ∧
    (after .engineTake { holding .queued none with commitQueue := [.a] }).waiting.engine =
      some { kind := .write 0xE000#16, addr := 0x8008#20 } := by decide +kernel

/-- ENGINE_WRITE_COMPLETE asks for the read-back of the word. -/
theorem test_engineWriteComplete :
    (after (.engineWriteComplete .sound) (logging (handed .logged 1 true) (some (.write 0xA55A#16)))).waiting.engine =
      some { kind := .read, addr := 0x8000#20 } := by decide +kernel

/-- ENGINE_READ_BACK_COMPLETE: a match of LOGGED is the commit point; a third mismatch begins a restoring write. -/
theorem test_engineReadBackComplete :
    (after (.engineReadBackComplete (.faulty 0xA55A#16)) (logging (handed .logged 1 true) (some .read))).waiting.engine
      = some { kind := .write 0xBEEF#16, addr := 0x2004#20 } ∧
    (after (.engineReadBackComplete .sound) (logging (handed .logged 3 true) (some .read))).engine.restoring = true := by
  decide +kernel

/-! ### Client cycles -/

/-- CLIENT_READ: the journal area answers the fill word; a staged word answers its own port. -/
theorem test_clientRead :
    (after (.clientRead ⟨.a, false⟩ 0x8037#20) ready).dataOut .a = some 0xEEEE#16 ∧
    (after (.clientRead ⟨.a, false⟩ 0x2004#20) (holding .staging none)).dataOut .a = some 0xBEEF#16 := by decide +kernel

/-- CLIENT_WRITE: a read-only window denies; the transactional window stages. -/
theorem test_clientWrite :
    raisedNames (after (.clientWrite ⟨.b, false⟩ 0x3000#20 1#16) ready) = [.writeDenied] ∧
    ((after (.clientWrite ⟨.a, false⟩ 0x2005#20 9#16) (holding .staging none)).sb.map Entry.position) = [0, 1] := by
  decide +kernel

/-- COMMAND_ADDRESS_READ: the oldest word, or the status word. -/
theorem test_commandAddressRead :
    (after (.commandAddressRead ⟨.a, false⟩) (inSession { session with responses := [0x0100#16, 3#16] })).dataOut .a =
      some 0x0100#16 ∧
    (after (.commandAddressRead ⟨.a, false⟩) (inSession { session with overrun := true })).dataOut .a = some 0x8080#16 := by
  decide +kernel

/-- CYCLE_ABANDONED sets the flag; CYCLE_ENDING_EXIT frees the port. -/
theorem test_strobes :
    ((after (.cycleAbandoned .a) (waitingFor .a .read 0x7000#20)).ports.get .a).cycle.map Cycle.abandoned = some true ∧
    (after (.cycleEndingExit .a) (after (.clientRead ⟨.a, false⟩ 0x8000#20) ready)).ports.get .a = ClientPort.fresh := by
  decide +kernel

/-! ### Commands of a session -/

/-- The words that a command leaves in port A's response queue. -/
def answers (s : State) : List Word := ((s.sessions.get .a).map Session.responses).getD []

/-- A read of the command address that its client abandons: the word is removed, D is not driven, the port is IDLE. -/
theorem test_abandonedCommandRead :
    let s := after (.commandAddressRead ⟨.a, true⟩) (inSession { session with responses := [0x0100#16, 3#16] })
    answers s = [3#16] ∧ s.dataOut .a = none ∧ s.ports.get .a = ClientPort.fresh := by decide +kernel

/-- OPEN leases window 0, and refuses window 1, which is not guarded. -/
theorem test_openLease :
    (after (.openLease ⟨.a, false⟩ 0#8) (inSession session)).lease 0 =
      .leased { holder := .a, key := 0, budget := some 2#16, lifetime := .running 70, count := 0#16 } ∧
    answers (after (.openLease ⟨.a, false⟩ 1#8) (inSession session)) = [0x0102#16] := by decide +kernel

/-- CLOSE ends the lease; without one it answers NONE. -/
theorem test_closeLease :
    (after (.closeLease ⟨.a, false⟩ 0#8) leased).lease 0 = .holdoff 300 ∧
    answers (after (.closeLease ⟨.a, false⟩ 0#8) (inSession session)) = [0x0208#16] := by decide +kernel

/-- BEGIN creates the transaction. -/
theorem test_beginTxn :
    (after (.beginTxn ⟨.a, false⟩ 0#8) (inSession session)).txns.get .a =
      { state := .staging, number := none, linked := true } ∧
    answers (after (.beginTxn ⟨.a, false⟩ 0#8) (holding .staging none)) = [0x0305#16] := by decide +kernel

/-- COMMIT accepts a transaction with an entry; one without ends EMPTY. -/
theorem test_commitTxn :
    answers (after (.commitTxn ⟨.a, false⟩ 0#8) (holding .staging none)) = [0x0401#16] ∧
    ((after (.commitTxn ⟨.a, false⟩ 0#8) { holding .staging none with sb := [] }).raised.map Notice.hi) = [0x2000#16] := by
  decide +kernel

/-- ABORT drops what was staged; past the commit point it is too late. -/
theorem test_abortTxn :
    (after (.abortTxn ⟨.a, false⟩ 0#8) (holding .staging none)).sb = [] ∧
    answers (after (.abortTxn ⟨.a, false⟩ 0#8) (working .applying .applying)) = [0x050A#16] := by decide +kernel

/-- STATUS reports five words. -/
theorem test_status :
    answers (after (.status ⟨.a, false⟩ 0#8) leased) = [0x0600#16, 0#16, 0#16, 1#16, 0#16] ∧
    answers (after (.status ⟨.a, false⟩ 0#8) (working .logging .logging)) =
      [0x0600#16, 0x8001#16, 5#16, 0#16, 0x2000#16] := by
  decide +kernel

/-- NEXT_EVENT delivers the record's words. -/
theorem test_nextEvent :
    answers (after (.nextEvent ⟨.a, false⟩ 0#8) { inSession session with
      records := [record { a := true, b := true } .portDenied] }) =
      [0x0700#16, 5#16, 77#16, 0x0302#16, 1#16, 2#16] := by decide +kernel

/-- ALERT_MASK sets the mask; BADVERB echoes the byte. -/
theorem test_alertMask :
    (after (.alertMask ⟨.a, false⟩ 0x42#8) (inSession session)).alertMask.get .a = 0x42#8 ∧
    answers (after (.badVerb ⟨.a, false⟩ 0x5A#8 0#8) (inSession session)) = [0x5A07#16] := by decide +kernel

/-- END ends the lease and the session, in that order. -/
theorem test_endSession :
    raisedNames (after (.endSession ⟨.a, false⟩ 0#8) leased) = [.leaseEnded, .sessionEnded] ∧
    (after (.endSession ⟨.a, false⟩ 0#8) leased).sessions.get .a = none := by decide +kernel

/-! ### Timers, the fence and the event queue -/

/-- Port A's recognizer part of the way through key 0. -/
def partWayThrough (breaks : Nat) : State :=
  ready.setSqr .a { Sqr.fresh with progress := #v[2, 0, 0, 0], stepTimer := .running 50, breaks := breaks }

/-- STEP_TIMER_EXPIRY counts one break, and locks out at the limit. -/
theorem test_stepTimerExpiry :
    (after (.stepTimerExpiry .a) (partWayThrough 1)).sqr.get .a = { Sqr.fresh with breaks := 2 } ∧
    (after (.stepTimerExpiry .a) (partWayThrough 2)).sqr.get .a =
      { Sqr.fresh with state := .lockedOut, breaks := 3, lockoutTimer := .running 4000 } := by decide +kernel

/-- Port A locked out. -/
def lockedOut : State := ready.setSqr .a
  { Sqr.fresh with state := .lockedOut, breaks := 3, lockoutTimer := .running 4000 }

/-- LOCKOUT_TIMER_EXPIRY ends the lockout. -/
theorem test_lockoutTimerExpiry :
    (after (.lockoutTimerExpiry .a) lockedOut).sqr.get .a = Sqr.fresh ∧
    raisedNames (after (.lockoutTimerExpiry .a) lockedOut) = [.keyLockoutEnd] := by decide +kernel

/-- The last step of key 0 opens the session. -/
theorem test_keyCompletes :
    raisedNames (after (.forwardedWriteComplete .sound)
      { partWayThrough 0 with
        ports := (forwardedNow .a (.write 0x33FF#16) 0x102#20).ports,
        inFlight := some { holder := .client .a, kind := .write 0x33FF#16, addr := 0x102#20 } }) =
      [.sessionOpened] := by decide +kernel

/-- IDLE_TIMER_EXPIRY ends the session and what is staged. -/
theorem test_idleTimerExpiry :
    raisedNames (after (.idleTimerExpiry .a) (holding .staging none)) = [.txnOutcome, .sessionEnded] := by
  decide +kernel

/-- LIFETIME_TIMER_EXPIRY ends the lease; HOLDOFF_TIMER_EXPIRY closes the window. -/
theorem test_leaseTimers :
    (after (.lifetimeTimerExpiry 0) leased).lease 0 = .holdoff 300 ∧
    (after (.holdoffTimerExpiry 15) (ready.setLease 15 (.holdoff 100))).lease 15 = .closed := by decide +kernel

/-- PWRGOOD_FALL fences the part; PWRGOOD_RISE opens the fence. -/
theorem test_fence :
    raisedNames (after .pwrgoodFall leased) = [.fenceEntered, .leaseEnded, .sessionEnded] ∧
    ((after .pwrgoodRise fenced).raised.map Notice.lo) = [9#16] := by decide +kernel

/-- PWRGOOD_CHANGE_IN_START_UP changes the level before READY only. -/
theorem test_pwrgoodChangeInStartUp :
    (after (.pwrgoodChangeInStartUp false) (readingProfile [])).pwrgood = false ∧
    (after (.pwrgoodChangeInStartUp false) ready).pwrgood = true := by decide +kernel

/-- Full queues: 31 records turn the next event into a marker, which counts the one after it. -/
def crowded (n : Nat) : State := { ready with
  records := List.replicate n (record { a := true, b := true } .portDenied),
  raised := [(record { a := true, b := true } .writeDenied).notice, (record { a := true, b := true } .bypass).notice] }

/-- EVENT_ARRIVAL stores the 31st record and makes a marker of the 32nd. -/
theorem test_eventArrival :
    ((after .eventArrival (crowded 30)).records.map (fun r => r.notice.name)).getLast? = some .writeDenied ∧
    ((after .eventArrival (after .eventArrival (crowded 31))).records.map (fun r => r.notice.lo)).getLast? =
      some 2#16 := by decide +kernel

/-! ### States that meet the hypotheses of the statements: the step and the laws -/

/-- A queue that is empty. -/
theorem witness_EmptyQueueStepCountsOneMillisecond : ready.pending = [] := by decide +kernel

/-- A write in flight changes memory. -/
theorem witness_MemoryChangesOnlyAtTheWriteInFlight :
    let s := forwardedNow .a (.write 7#16) 0x7000#20
    exec (.forwardedWriteComplete .sound) s = .next (after (.forwardedWriteComplete .sound) s) ∧
    memRead (after (.forwardedWriteComplete .sound) s).memory 0x7000 ≠ memRead s.memory 0x7000 := by
  refine ⟨rfl, ?_⟩
  decide +kernel

/-- A part held in reset, and a part in operation, that step. -/
theorem witness_StoppedPartHoldsStartUpValues :
    let s := { State.reset with pending := [.resetnRise false true] }
    (ResetLaw s ∧ (s.stage = .stopped → s = { initialise s with ports := s.ports })) ∧
    (∃ t, step s = .next t) ∧
    (ResetLaw ready ∧ (ready.stage = .stopped → ready = { initialise ready with ports := ready.ports })) ∧
    (∃ t, step ready = .next t) := by
  refine ⟨⟨?_, fun _ => rfl⟩, ⟨_, rfl⟩, ⟨?_, fun h => ?_⟩, ⟨_, rfl⟩⟩
  · unfold ResetLaw
    decide +kernel
  · unfold ResetLaw
    decide +kernel
  · exact absurd h (by decide +kernel)

/-- A memory with its first and its last word listed. -/
theorem witness_MemoryLawIsKept :
    let s := { ready with memory := [(0, 1#16), (0xFFFFF, 2#16)] }
    MemoryLaw s ∧ ∃ t, step s = .next t := by
  refine ⟨?_, _, rfl⟩
  unfold MemoryLaw
  decide +kernel

/-- A full event queue with events waiting. -/
theorem witness_EventLawIsKept :
    let s := { crowded 31 with pending := [.eventArrival] }
    (EventLaw s ∧ ReaderLaw s) ∧ ∃ t, step s = .next t := by
  refine ⟨?_, _, rfl⟩
  unfold EventLaw ReaderLaw audienceWithin
  decide +kernel

/-- Port B's entry in window 4. -/
def entryB : Entry := { owner := .port .b, addr := 0x5000#20, data := 1#16, position := 0 }

/-- The engine writes LOGGED for port A at the third attempt while port B's transaction, whose session has ended, is
QUEUED; port B's recognizer is locked out. -/
def committing : State :=
  { (((logging (handed .logged 3 true) (some (.write 0xA55A#16))).setTxn .b
      { state := .queued, number := none, linked := false }).setClaim 4 (some .b)).setSqr .b
      { Sqr.fresh with state := .lockedOut, breaks := 3, lockoutTimer := .running 4000 } with
    sb := [entry, entryB], commitQueue := [.b] }

/-- That state keeps the laws of the stage buffer. -/
theorem committing_staging : StagingLaws committing := by
  refine ⟨⟨?_, fun _ => by decide⟩, ?_, ?_, ?_, ?_, ?_⟩
  · rintro f h
    cases h
    decide +kernel
  · unfold FenceLaw
    decide +kernel
  · unfold SessionLaw onBoth SessionLawOf
    decide +kernel
  · unfold StagedLaw StagedLawOf onBoth
    decide +kernel
  · intro w p h
    have claims : ∀ v : Fin 16, committing.claim v = if v = 1 then some .a else if v = 4 then some .b else none := by
      decide +kernel
    have named := (claims w).symm.trans h
    by_cases one : w = 1
    · subst one
      cases named
      exact ⟨by decide +kernel, by decide +kernel, entry, by decide +kernel⟩
    · by_cases four : w = 4
      · subst four
        cases named
        exact ⟨by decide +kernel, by decide +kernel, entryB, by decide +kernel⟩
      · simp [one, four] at named
  · intro e he p hp
    rcases List.mem_cons.1 he with same | later
    · subst same
      cases hp
      decide +kernel
    · have same : e = entryB := List.mem_singleton.1 later
      subst same
      cases hp
      decide +kernel

/-- That state keeps the laws of the engine. -/
theorem committing_engine : EngineLaws committing := by
  refine ⟨⟨?_, ?_, ?_, ?_⟩, ?_, ?_, ?_⟩
  · rintro w h
    cases h
    exact ⟨⟨rfl, Or.inl rfl⟩, trivial, by decide, by decide, by decide +kernel, rfl, fun _ => by decide +kernel⟩
  · rintro q h
    cases h
  · rintro a h _
    cases h
    exact ⟨handed .logged 3 true, by decide +kernel⟩
  · decide +kernel
  · unfold CourseLaw Engine.ported
    decide +kernel
  · unfold SlotLaw
    decide +kernel
  · unfold CommitLaw onBoth
    decide +kernel

/-- Recognizers in SESSION and locked out, with the engine at work. -/
theorem witness_RecognizerLawIsKept :
    let s := { committing with pending := [.lockoutTimerExpiry .b] }
    (StagingLaws s ∧ EngineLaws s ∧ RecognizerLaw s) ∧ ∃ t, step s = .next t := by
  refine ⟨⟨committing_staging, committing_engine, ?_⟩, _, rfl⟩
  change RecognizerLaw committing
  unfold RecognizerLaw onBoth RecognizerLawOf
  decide +kernel

/-- A session with a lease and a full response queue. -/
theorem witness_SessionAndLeaseLawsAreKept :
    let s := { leased with
      sessions := { a := some { session with responses := List.replicate 8 0x0600#16 }, b := none },
      pending := [.pwrgoodFall] }
    (FenceLaw s ∧ SessionLaw s ∧ ResponseLaw s ∧ LeaseLaw s) ∧ ∃ t, step s = .next t := by
  refine ⟨⟨?_, ?_, ?_, ?_⟩, _, rfl⟩
  · unfold FenceLaw
    decide +kernel
  · unfold SessionLaw onBoth SessionLawOf
    decide +kernel
  · exact ⟨fun x h => by cases h; decide, fun x h => by cases h⟩
  · intro w r h
    by_cases hw : w = 0
    · subst hw
      cases h
      decide +kernel
    · have closed : ∀ v : Fin 16, v ≠ 0 → leased.lease v = .closed := by decide +kernel
      exact absurd ((closed w hw).symm.trans h) (by simp)

/-- Port A's write waits for the memory port. -/
theorem witness_CycleLawIsKept :
    let s := { waitingFor .a (.write 5#16) 0x8038#20 with pending := [.memoryPortGrant] }
    (CycleLaw s ∧ UpstreamLaw s) ∧ ∃ t, step s = .next t := by
  refine ⟨⟨⟨⟨?_, ?_⟩, ?_, ?_⟩, ?_, ?_⟩, _, rfl⟩
  · unfold CycleLawOf
    decide +kernel
  · rintro c h
    cases h
    exact ⟨fun q hq => by cases hq; exact ⟨rfl, rfl⟩, fun a ha => by cases ha⟩
  · unfold CycleLawOf
    decide +kernel
  · rintro c h
    cases h
  · rintro d x h
    cases h
    decide +kernel
  · rintro d x h
    cases h

/-- A word of LOGGING in flight and an entry of each port. -/
theorem witness_StagingLawsAreKept :
    let s := { committing with pending := [.abortTxn ⟨.a, false⟩ 0#8] }
    (StagingLaws s ∧ EngineLaws s) ∧ ∃ t, step s = .next t :=
  ⟨⟨committing_staging, committing_engine⟩, _, rfl⟩

/-- The write of LOGGED about to complete. -/
theorem witness_EngineLawsAreKept :
    let s := { committing with pending := [.engineWriteComplete .sound] }
    (StagingLaws s ∧ EngineLaws s) ∧ ∃ t, step s = .next t :=
  ⟨⟨committing_staging, committing_engine⟩, _, rfl⟩

/-! ### Start-up, reset and supply -/

/-- The state held in reset is stopped with the supply in range. -/
theorem witness_StartUpBeginsFromStartUpState :
    State.reset.stage = .stopped ∧ State.reset.supply = true ∧ State.reset.resetn = false := by decide

/-- A part in operation with a write, with a read and with nothing in flight. -/
theorem witness_ResetAndSupplyLossEndActivity :
    let s := forwardedNow .a (.write 7#16) 0x7000#20
    s.supply = true ∧ s.resetn = true ∧
    s.inFlight = some { holder := .client .a, kind := .write 7#16, addr := 0x7000#20 } ∧
    (forwardedNow .a .read 0x7000#20).inFlight = some { holder := .client .a, kind := .read, addr := 0x7000#20 } ∧
    ready.inFlight = none := by decide +kernel

/-- The part waiting for PWRGOOD. -/
def waitingPwrgood : State := { State.reset with resetn := true, stage := .waitPwrgood }

/-- The wait for PWRGOOD. -/
theorem witness_PwrgoodEndsTheWait : waitingPwrgood.stage = .waitPwrgood := by decide

/-- The first 271 words of a sound profile but for its CRC: window 0 enabled, a journal area of j entries at
0x8000. -/
def rawHead (j : Word) : List Word :=
  [0x5744#16, 1#16, 272#16, 0#16] ++ List.replicate 10 0#16 ++
    [50#16, 3#16, 4#16, 100#16, 0#16, 0x8000#16, j] ++ List.replicate 11 0#16 ++
    [0x8000#16, 0x1000#16, 0x1FFF#16, 0#16, 0#16, 0#16] ++ List.replicate 233 0#16

/-- A candidate of those words and a last word, its CRC word set. -/
def withCrc (ws : List Word) : List Word := ws.set 3 (crc16 ((ws ++ [0#16]).set 3 0#16))

/-- The CRC word does not change another word. -/
theorem candidateWord_set (ws : List Word) (c : Word) (i : Nat) (h : i ≠ 3) :
    candidateWord (ws.set 3 c) i = candidateWord ws i := by
  simp [candidateWord, List.getD_eq_getElem?_getD, List.getElem?_set_ne (Ne.symm h)]

/-- No field stands in the CRC word. -/
theorem parseProfile_set (ws : List Word) (c : Word) : parseProfile (ws.set 3 c) = parseProfile ws := by
  simp [parseProfile, candidateWindow, candidateKey, candidateStep, candidateAddr, candidateWord_set]

/-- Checks 5 to 11. -/
def laterChecks (ws : List Word) : Option Rejection :=
  (checkRange (parseProfile ws)).or ((checkOverlap (parseProfile ws)).or ((checkPlace (parseProfile ws)).or
    ((checkSize (parseProfile ws)).or ((checkKeys (parseProfile ws)).or ((checkCommand (parseProfile ws)).or
      (checkTimers (parseProfile ws) (candidateWord ws 8)))))))

/-- The whole candidate is the one without its CRC word, that word set. -/
theorem withCrc_append (ws : List Word) (long : 3 < ws.length) :
    withCrc ws ++ [0#16] = (ws ++ [0#16]).set 3 (crc16 ((ws ++ [0#16]).set 3 0#16)) := by
  rw [withCrc, ← List.set_append_left _ _ long]

/-- The CRC word is the one the check asks for. -/
theorem withCrc_fits (ws : List Word) (long : 3 < ws.length) :
    profileCrc (withCrc ws ++ [0#16]) = candidateWord (withCrc ws ++ [0#16]) 3 := by
  have longer : 3 < (ws ++ [0#16]).length := by simp only [List.length_append]; omega
  rw [withCrc_append ws long, profileCrc, List.set_set, candidateWord, List.getD_eq_getElem?_getD,
    List.getElem?_set_self longer, Option.getD_some]

/-- A candidate that passes the checks but that of its CRC is valid with it. -/
theorem withCrc_valid (ws : List Word) (long : 3 < ws.length)
    (first : candidateWord (ws ++ [0#16]) 0 = 0x5744#16 ∧ candidateWord (ws ++ [0#16]) 1 = 1#16 ∧
      candidateWord (ws ++ [0#16]) 2 = 272#16) (later : laterChecks (ws ++ [0#16]) = none) :
    validateProfile (withCrc ws ++ [0#16]) = none := by
  have header : checkHeader (withCrc ws ++ [0#16]) = none := by
    have crc := withCrc_fits ws long
    rw [withCrc_append ws long] at crc ⊢
    simp only [checkHeader, crc, candidateWord_set _ _ 0 (by decide), candidateWord_set _ _ 1 (by decide),
      candidateWord_set _ _ 2 (by decide), first, ne_eq, not_true_eq_false, if_false]
  rw [withCrc_append ws long] at header ⊢
  rw [laterChecks] at later
  simp only [validateProfile, header, Option.none_or, parseProfile_set, candidateWord_set _ _ 8 (by decide), later]

/-- The profile read at its first word, before its last, and at its last: a rejected candidate, a sound one without
a journal and a sound one with 16 entries. -/
theorem witness_ProfileWordsAreReadAndJudged :
    (∀ ws, (readingProfile ws).stage = .profileRead ∧ (readingProfile ws).inFlight =
      some { holder := .engine, kind := .read, addr := BitVec.ofNat 20 ws.length }) ∧
    (List.replicate 270 0#16 ++ [0#16]).length < 272 ∧
    validateProfile (List.replicate 271 0#16 ++ [0#16]) = some (.signature, 0xFFFF#16) ∧
    (let ws := withCrc (rawHead 0#16) ++ [0#16]
     272 ≤ ws.length ∧ validateProfile ws = none ∧ (parseProfile ws).journalCapacity = 0#16) ∧
    (let ws := withCrc (rawHead 512#16) ++ [0#16]
     272 ≤ ws.length ∧ validateProfile ws = none ∧ (parseProfile ws).journalCapacity ≠ 0#16) := by
  have long : ∀ j, (rawHead j).length = 271 := fun j => by
    simp only [rawHead, List.length_append, List.length_replicate, List.length_cons, List.length_nil]
  refine ⟨fun _ => ⟨rfl, rfl⟩, by decide +kernel, by decide +kernel,
    ⟨by simp [withCrc, long], withCrc_valid _ (by simp [long]) (by decide +kernel) (by decide +kernel), ?_⟩,
    ⟨by simp [withCrc, long], withCrc_valid _ (by simp [long]) (by decide +kernel) (by decide +kernel), ?_⟩⟩
  · rw [withCrc_append _ (by simp [long]), parseProfile_set]
    decide +kernel
  · rw [withCrc_append _ (by simp [long]), parseProfile_set]
    decide +kernel

/-- The fields of a sound candidate with 16 entries at 0x8000 and window 0 at 0x1000 to 0x1FFF, some words changed. -/
def fields (changes : List (Nat × Word)) : Profile :=
  parseProfile (changes.foldl (fun ws c => ws.set c.1 c.2) (rawHead 16#16 ++ [0#16]))

/-- A word of the guarded memory in an enabled window. -/
def covered (f : Profile) (w : Fin 16) (n : Nat) : Bool :=
  f.windows[w].enable && decide (f.windows[w].base.toNat ≤ n) && decide (n ≤ f.windows[w].limit.toNat)

/-- A word of the journal area. -/
def inArea (f : Profile) (n : Nat) : Bool :=
  decide (f.journalCapacity ≠ 0#16) && decide (f.journalBase.toNat ≤ n) &&
    decide (n < f.journalBase.toNat + 8 + 3 * f.journalCapacity.toNat)

/-- With window 0 alone enabled, at 0x1000 to 0x1FFF, no word is in two windows, and no other window covers any. -/
theorem onlyWindow0 (f : Profile) (others : ∀ w : Fin 16, w ≠ 0 → f.windows[w].enable = false) (w : Fin 16) (n : Nat)
    (h : covered f w n = true) : w = 0 := by
  by_contra other
  simp only [covered, Bool.and_eq_true] at h
  exact Bool.noConfusion ((others w other).symm.trans h.1.1)

/-- Candidates that fail each of the first four checks, and how any candidate passes the fourth with its fields
unchanged. Fields that fail each later check at the ends of its ranges, and fields that pass: the last window with its
limit one below its base; windows 0 and 1 with one word in common; a journal area that begins at the last word of window
0, at word 511, and one that ends a word past the top; J of 15 and 513; step counts 1 and 9; command addresses at the
last and the first word of the area; a timer of 256 and of 0, a holdoff of 256. -/
theorem witness_ValidationReportsTheFirstFailingCheck :
    (candidateWord [0x5743#16] 0 ≠ 0x5744#16 ∧
      (candidateWord [0x5744#16, 2#16] 0 = 0x5744#16 ∧ candidateWord [0x5744#16, 2#16] 1 ≠ 1#16) ∧
      (candidateWord [0x5744#16, 1#16, 271#16] 1 = 1#16 ∧ candidateWord [0x5744#16, 1#16, 271#16] 2 ≠ 272#16) ∧
      (let ws := [0x5744#16, 1#16, 272#16, 0#16]
       candidateWord ws 2 = 272#16 ∧ crc16 (ws.set 3 0#16) ≠ candidateWord ws 3)) ∧
    (∀ ws : List Word, 3 < ws.length →
      let c := ws.set 3 (crc16 (ws.set 3 0#16))
      crc16 (c.set 3 0#16) = candidateWord c 3 ∧ parseProfile c = parseProfile ws ∧
      ∀ i ≠ 3, candidateWord c i = candidateWord ws i) ∧
    (let f := fields [(122, 0x8000#16), (123, 1#16)]
     f.windows[15].enable = true ∧ f.windows[15].limit.toNat < f.windows[15].base.toNat ∧
     ∀ v < (15 : Fin 16), ¬ (f.windows[v].enable = true ∧ f.windows[v].limit.toNat < f.windows[v].base.toNat)) ∧
    (let f := fields [(38, 0x8000#16), (39, 0x1FFF#16), (40, 0x2FFF#16)]
     covered f 0 0x1FFF = true ∧ covered f 1 0x1FFF = true ∧ covered f 1 0x1FFE = false) ∧
    (let f := fields [(19, 0x1FFF#16)]
     inArea f 0x1FFF = true ∧ covered f 0 0x1FFF = true ∧ inArea f 0x1FFE = false) ∧
    ((inArea (fields [(19, 511#16)]) 511 = true ∧ inArea (fields [(18, 15#16), (19, 0xFFC9#16)]) 1048576 = true) ∧
      ∀ c ∈ [[], [(19, 511#16)], [(18, 15#16), (19, 0xFFC9#16)], [(20, 15#16)], [(20, 513#16)]],
        let f := fields c
        (∀ w : Fin 16, w ≠ 0 → f.windows[w].enable = false) ∧ f.windows[0].base = 0x1000#20 ∧
        f.windows[0].limit = 0x1FFF#20 ∧ inArea f 0x1000 = false ∧ inArea f 0x1FFF = false) ∧
    ((fields [(20, 15#16)]).journalCapacity.toNat = 15 ∧ (fields [(20, 513#16)]).journalCapacity.toNat = 513 ∧
      (fields []).journalCapacity.toNat = 16 ∧ inArea (fields [(20, 513#16)]) 511 = false ∧
      inArea (fields [(20, 513#16)]) 1048576 = false) ∧
    ((fields [(236, 1#16)]).keys[3].stepCount.toNat = 1 ∧ 8 < (fields [(128, 9#16)]).keys[0].stepCount.toNat ∧
      ∀ k : Fin 4, (fields []).keys[k].stepCount.toNat = 0) ∧
    (inArea (fields [(11, 0x8037#16)]) (fields [(11, 0x8037#16)]).command.a.toNat = true ∧
      inArea (fields [(13, 0x8000#16)]) (fields [(13, 0x8000#16)]).command.a.toNat = false ∧
      inArea (fields [(13, 0x8000#16)]) (fields [(13, 0x8000#16)]).command.b.toNat = true ∧
      inArea (fields []) (fields []).command.b.toNat = false) ∧
    ((fields [(14, 256#16)]).stepTime.toNat = 256 ∧ (fields [(15, 0#16)]).breakLimit.toNat = 0 ∧
      (fields [(35, 0x1000#16)]).windows[0].holdoff.toNat = 256 ∧ checkTimers (fields []) 1#16 = none ∧
      checkTimers (fields []) 2#16 ≠ none) := by
  refine ⟨by decide +kernel, fun ws long => ⟨?_, parseProfile_set _ _, fun i => candidateWord_set ws _ i⟩, ?_⟩
  · rw [List.set_set, candidateWord, List.getD_eq_getElem?_getD, List.getElem?_set_self long, Option.getD_some]
  · decide +kernel

/-! ### Journal recovery -/

/-- Recovery at the header, with some words read and header word 4 in memory. -/
def atHeader (ws : List Word) (w4 : Word) : State :=
  recovering { Recovery.fresh with phase := .header, header := ws } w4

/-- A CLEAR header about to be read whole. -/
theorem witness_ClearHeaderSetsTheNumbers :
    let s := atHeader [0x5AA5#16, 0xFFFF#16, 1#16, 2#16] 3#16
    s.recovery.phase = .header ∧ s.recovery.header = [0x5AA5#16, 0xFFFF#16, 1#16, 2#16] ∧
    s.inFlight = some { holder := .engine, kind := .read, addr := 0x8004#20 } := by decide +kernel

/-- Headers part read, UNFORMATTED, and LOGGED with counts 0, 17, 1 and 16 and with both CRC results. -/
theorem witness_HeaderIsReadAndClassified :
    let read (ws : List Word) (w4 : Word) := (atHeader ws w4).recovery.header ++ [memRead (atHeader ws w4).memory 0x8004]
    (∀ ws w4, (atHeader ws w4).recovery.phase = .header ∧
      (atHeader ws w4).inFlight = some { holder := .engine, kind := .read, addr := 0x8004#20 }) ∧
    (read [] 0#16).length < 5 ∧ (read [1#16, 2#16, 3#16] 0#16).length < 5 ∧
    read [0xA559#16, 6#16, 1#16, 2#16] 9#16 = [0xA559#16, 6#16, 1#16, 2#16, 9#16] ∧
    read [0xA55A#16, 6#16, 0#16, 2#16] 9#16 = [0xA55A#16, 6#16, 0#16, 2#16, 9#16] ∧
    read [0xA55A#16, 6#16, 17#16, 2#16] 9#16 = [0xA55A#16, 6#16, 17#16, 2#16, 9#16] ∧
    (atHeader [] 9#16).active.journalCapacity.toNat = 16 ∧
    read [0xA55A#16, 6#16, 1#16, 2#16] 9#16 = [0xA55A#16, 6#16, 1#16, 2#16, 9#16] ∧
    crc16 [0xA55A#16, 6#16, 1#16, 2#16] ≠ 9#16 ∧
    (let w4 := crc16 [0xA55A#16, 6#16, 16#16, 2#16]
     read [0xA55A#16, 6#16, 16#16, 2#16] w4 = [0xA55A#16, 6#16, 16#16, 2#16, w4]) := by
  refine ⟨fun _ _ => ⟨rfl, rfl⟩, ?_⟩
  decide +kernel

/-- Recovery at the checking pass of one slot for 0x12345, with some words read. -/
def atCheck (ws : List Word) (w : Word) : State := recovering { Recovery.fresh with
  phase := .check, slots := ws,
  header := [0xA55A#16, 6#16, 1#16, crc16 [0xE001#16, 0x2345#16, 0xCAFE#16], 0#16] } w

/-- A slot part read, a sound slot, a slot whose last word differs. -/
theorem witness_CheckingPassJudgesTheSlots :
    (∀ ws w, (atCheck ws w).recovery.phase = .check ∧
      (atCheck ws w).inFlight = some { holder := .engine, kind := .read, addr := 0x8004#20 }) ∧
    ([0xE001#16] ++ [memRead (atCheck [0xE001#16] 0x2345#16).memory 0x8004]).length <
      3 * ((atCheck [0xE001#16] 0x2345#16).headerRead 2).toNat ∧
    (let s := atCheck [0xE001#16, 0x2345#16] 0xCAFE#16
     let slots := s.recovery.slots ++ [memRead s.memory 0x8004]
     3 * (s.headerRead 2).toNat ≤ slots.length ∧ crc16 slots = s.headerRead 3 ∧
     (∀ i < (s.headerRead 2).toNat, (wordAt slots (3 * i)).extractLsb' 4 12 = 0xE00#12 ∧
        s.inJournal (addrOfWords (wordAt slots (3 * i)) (wordAt slots (3 * i + 1))) = false ∧
        ∀ k < i, addrOfWords (wordAt slots (3 * k)) (wordAt slots (3 * k + 1)) ≠
          addrOfWords (wordAt slots (3 * i)) (wordAt slots (3 * i + 1)))) ∧
    (let s := atCheck [0xE001#16, 0x2345#16] 0xCAFF#16
     let slots := s.recovery.slots ++ [memRead s.memory 0x8004]
     3 * (s.headerRead 2).toNat ≤ slots.length ∧ crc16 slots ≠ s.headerRead 3) := by
  refine ⟨fun _ _ => ⟨rfl, rfl⟩, ?_⟩
  decide +kernel

/-- Recovery at the loading pass of one slot, with some words read. -/
def atLoad (ws : List Word) (w : Word) : State := recovering { Recovery.fresh with
  phase := .load, loaded := ws, header := [0xA55A#16, 6#16, 1#16, 0#16, 0#16] } w

/-- A slot part loaded and a slot about to be whole. -/
theorem witness_LoadingPassJoinsRecoveryEntries :
    (∀ ws w, (atLoad ws w).recovery.phase = .load ∧
      (atLoad ws w).inFlight = some { holder := .engine, kind := .read, addr := 0x8004#20 }) ∧
    ([0xE001#16] ++ [0x2345#16]).length < 3 * ((atLoad [0xE001#16] 0x2345#16).headerRead 2).toNat ∧
    3 * ((atLoad [0xE001#16, 0x2345#16] 1#16).headerRead 2).toNat ≤ ([0xE001#16, 0x2345#16] ++ [1#16]).length := by
  refine ⟨fun _ _ => ⟨rfl, rfl⟩, ?_⟩
  decide +kernel

/-! ### The memory port -/

/-- The engine place waits alone. -/
def engineWaiting (q : Request) (last : Requester) : State :=
  { ready.setEngineRequest (some q) with lastGranted := last }

/-- Each last grant, a port in use, an empty waiting set, and the engine next. -/
theorem witness_EngineIsGrantedInRotation :
    (engineWaiting { kind := .read, addr := 1#20 } (.client .a)).lastGranted = .client .a ∧
    (engineWaiting { kind := .read, addr := 1#20 } (.client .b)).lastGranted = .client .b ∧
    ready.lastGranted = .engine ∧ (forwardedNow .a .read 0#20).inFlight ≠ none ∧ ready.nextGrant = none ∧
    (∀ q ∈ [{ kind := .read, addr := 1#20 }, { kind := .write 2#16, addr := 3#20 }],
      (engineWaiting q .engine).inFlight = none ∧
      (engineWaiting q .engine).nextGrant = some (.engine, q)) := by decide +kernel

/-- The condition of a port's next grant. -/
def grantNext (s : State) (p : Port) (kind : AccessKind) (x : Addr) : Bool :=
  decide (s.inFlight = none) && decide (s.nextGrant = some (.client p, { kind := kind, addr := x })) &&
    decide (s.ports.get p = { state := .held, early := 0#16, cycle := some (cycle kind x) })

/-- A waiting cycle that its client has abandoned is granted as any other, and one in flight is still in flight. -/
theorem witness_AbandonedCycles :
    (let s := after (.cycleAbandoned .b) (waitingFor .b (.write 3#16) 0x7000#20)
     s.inFlight = none ∧ s.nextGrant = some (.client .b, { kind := .write 3#16, addr := 0x7000#20 }) ∧
     (s.ports.get .b).cycle = some { cycle (.write 3#16) 0x7000#20 with abandoned := true }) ∧
    (let s := after (.cycleAbandoned .b) (forwardedNow .b .read 0x7000#20)
     s.inFlight = some { holder := .client .b, kind := .read, addr := 0x7000#20 } ∧
     (s.ports.get .b).cycle = some { cycle .read 0x7000#20 with abandoned := true }) := by decide +kernel

/-- A waiting read that finds a RECOVERY entry, one that finds nothing, and a read in flight. -/
theorem witness_ForwardedReadsAreAnswered :
    (let s := { waitingFor .b .read 0x7000#20 with
        sb := [{ owner := .recovery, addr := 0x7000#20, data := 3#16, position := 0 }] }
     grantNext s .b .read 0x7000#20 = true ∧ s.lookup .b 0x7000#20 = some 3#16) ∧
    (let s := waitingFor .b .read 0x7000#20
     grantNext s .b .read 0x7000#20 = true ∧ s.lookup .b 0x7000#20 = none) ∧
    (let s := forwardedNow .b .read 0x7000#20
     s.inFlight = some { holder := .client .b, kind := .read, addr := 0x7000#20 } ∧
     (s.ports.get .b).cycle = some (cycle .read 0x7000#20)) := by decide +kernel

/-- Waiting writes that go on to memory, in the background and in a window, find the fence, find their lease gone, find
a RECOVERY entry, find that they are to be staged and find a claim. -/
theorem witness_WriteGrantDecidesAgain :
    (let s := waitingFor .b (.write 3#16) 0x7000#20
     grantNext s .b (.write 3#16) 0x7000#20 = true ∧ s.fence = .opened ∧ s.windowOf 0x7000#20 = none ∧
     s.permits .b none = true ∧ s.recoveryHolds 0x7000#20 = false) ∧
    (let s := waitingFor .b (.write 3#16) 0x2FFF#20
     grantNext s .b (.write 3#16) 0x2FFF#20 = true ∧ s.windowOf 0x2FFF#20 = some 1 ∧ s.permits .b (some 1) = true ∧
     s.recoveryHolds 0x2FFF#20 = false ∧ s.stageBound .b 1 = false ∧ s.claim 1 = none) ∧
    (let s := { waitingFor .b (.write 3#16) 0x7000#20 with fence := .fenced, pwrgood := false }
     grantNext s .b (.write 3#16) 0x7000#20 = true ∧ s.fence = .fenced) ∧
    (let s := waitingFor .b (.write 3#16) 0x1000#20
     grantNext s .b (.write 3#16) 0x1000#20 = true ∧ s.fence = .opened ∧
     s.permits .b (s.windowOf 0x1000#20) = false) ∧
    (let s := { waitingFor .b (.write 3#16) 0x2004#20 with sb := [{ entry with owner := .recovery }] }
     grantNext s .b (.write 3#16) 0x2004#20 = true ∧ s.permits .b (s.windowOf 0x2004#20) = true ∧
     s.recoveryHolds 0x2004#20 = true) ∧
    (let s := (waitingFor .b (.write 3#16) 0x2000#20).setTxn .b { state := .staging, number := none, linked := true }
     grantNext s .b (.write 3#16) 0x2000#20 = true ∧ s.windowOf 0x2000#20 = some 1 ∧ s.permits .b (some 1) = true ∧
     s.recoveryHolds 0x2000#20 = false ∧ s.stageBound .b 1 = true) ∧
    (let s := (waitingFor .b (.write 3#16) 0x2000#20).setClaim 1 (some .a)
     grantNext s .b (.write 3#16) 0x2000#20 = true ∧ s.fence = .opened ∧ s.windowOf 0x2000#20 = some 1 ∧
     s.permits .b (some 1) = true ∧ s.recoveryHolds 0x2000#20 = false ∧ s.stageBound .b 1 = false ∧
     s.claim 1 ≠ none) := by decide +kernel

/-- A write in flight in a window and one in the background. -/
theorem witness_ForwardedWriteIsWritten :
    (∀ x, MemoryLaw (forwardedNow .a (.write 7#16) x) ∧
      (forwardedNow .a (.write 7#16) x).inFlight = some { holder := .client .a, kind := .write 7#16, addr := x } ∧
      ((forwardedNow .a (.write 7#16) x).ports.get .a).cycle = some (cycle (.write 7#16) x)) ∧
    (forwardedNow .a (.write 7#16) 0x1000#20).windowOf 0x1000#20 = some 0 ∧
    (forwardedNow .a (.write 7#16) 0x7000#20).windowOf 0x7000#20 = none := by
  refine ⟨fun _ => ⟨rfl, rfl, rfl⟩, ?_⟩
  decide +kernel

/-! ### The journal engine -/

/-- A QUEUED transaction with one entry at the head of the queue. -/
theorem witness_EngineTakesTheHead :
    let s := { holding .queued none with commitQueue := [.a] }
    s.stage = .operating ∧ s.engine.state = .idle ∧ s.commitQueue = [.a] ∧
    s.entryAt (.port .a) 0 = some entry := by decide +kernel

/-- A numbered transaction in the engine. -/
theorem witness_JournalWordsCarryTheTransaction :
    let s := working .logging .logging
    s.engine.current = some (.port .a) ∧ (s.txns.get .a).number = some 6#16 ∧
    s.entryAt (.port .a) 0 = some entry := by decide +kernel

/-- The engine at work with a word in hand, told to stop. -/
def stopped (first : StopCause) (w : WordInHand) (kind : Option AccessKind) : State :=
  let s := logging w kind
  s.setEngine { s.engine with stop := some first }

/-- The engine writes, with VERIFY and without it, and with a stop waiting. -/
theorem witness_EngineWriteCompletes :
    (let s := logging (handed .logged 1 true) (some (.write 0xA55A#16))
     s.engineWriting (handed .logged 1 true) ∧ ¬ s.stopWaits ∧ s.active.verify = true ∧
     { s with profile := some { plan with verify := false } }.engineWriting (handed .logged 1 true) ∧
     { s with profile := some { plan with verify := false } }.active.verify = false) ∧
    (∀ first ∈ [StopCause.abort, .fence], ∀ role ∈ [WordRole.logged, .header 1],
      let s := stopped first (handed role 1 true) (some (.write 0xA55A#16))
      s.engineWriting (handed role 1 true) ∧ s.stopWaits ∧ s.engine.current = some (.port .a) ∧
      s.engine.stop = some first) := by
  unfold State.engineWriting State.stopWaits
  decide +kernel

/-- The engine reads back: a match, a mismatch at attempts 1 and 2, the third, and with a stop waiting. -/
theorem witness_ReadBackDecidesTheAttempt :
    (∀ n ∈ [1, 2, 3], (logging (handed .logged n true) (some .read)).engineVerifying (handed .logged n true) ∧
      ¬ (logging (handed .logged n true) (some .read)).stopWaits) ∧
    (handed .logged 2 true).attempt < 3 ∧ 3 ≤ (handed .logged 3 true).attempt ∧
    memRead { logging (handed .logged 1 true) (some .read) with memory := [(0x8000, 0xA55A#16)] }.memory
      (handed .logged 1 true).addr.toNat = (handed .logged 1 true).value ∧
    memRead (logging (handed .logged 1 true) (some .read)).memory (handed .logged 1 true).addr.toNat ≠
      (handed .logged 1 true).value ∧
    (∀ first ∈ [StopCause.abort, .fence],
      let s := stopped first (handed .logged 3 true) (some .read)
      s.engineVerifying (handed .logged 3 true) ∧ s.stopWaits ∧ s.engine.current = some (.port .a) ∧
      s.engine.stop = some first) := by
  unfold State.engineVerifying State.stopWaits
  decide +kernel

/-- The engine at work on RECOVERY entries, positions 0 and 1. -/
def replaying : State := { (recovering Recovery.fresh 0#16).setEngine
    { Engine.fresh with state := .applying, current := some .recovery } with
  sb := [{ entry with owner := .recovery }, { entry with owner := .recovery, addr := 0x2005#20, position := 1 }] }

/-- A transaction of two entries in the engine, positions 0 and 1, and a replay of two. -/
theorem witness_EngineWordsGoInOrder :
    (let s := { working .logging .logging with sb := [entry, { entry with addr := 0x2005#20, position := 1 }] }
     s.engine.current = some (.port .a) ∧ 0 + 1 < s.entryCount (.port .a) ∧ s.entryCount (.port .a) ≤ 1 + 1) ∧
    (replaying.engine.current = some .recovery ∧ 0 + 1 < replaying.entryCount .recovery ∧
      replaying.entryCount .recovery ≤ 1 + 1 ∧ (replaying.entryAt .recovery 1).isSome = true) := by
  decide +kernel

/-- A transaction in the engine, with no stop, either stop, and an empty or a full commit queue; a replay. -/
theorem witness_EngineEndsOrFaults :
    (∀ c ∈ [none, some .abort, some .fence],
      let s := (working .logging .logging).setEngine { (working .logging .logging).engine with stop := c }
      s.engine.current = some (.port .a) ∧ (s.txns.get .a).number = some 6#16 ∧ s.engine.stop = c) ∧
    (working .applying .applying).commitQueue = [] ∧
    { working .applying .applying with commitQueue := [.b] }.commitQueue = [otherPort .a] ∧
    replaying.engine.current = some .recovery := by decide +kernel

/-- LOGGING with a write in flight, with LOGGED granted and complete, with a request not yet granted, and with a
restoring write. -/
theorem witness_StopEndsLogging :
    (∀ w ∈ [handed .logged 1 true, handed (.slot 0 1) 1 false], ∀ k ∈ [none, some (.write 0xA55A#16)],
      (logging w k).engine.state = .logging ∧ (logging w k).engine.current = some (.port .a) ∧
      (logging w k).engine.word = some w ∧ (logging w k).engine.restoring = false) ∧
    (logging (handed .logged 1 true) (some (.write 0xA55A#16))).engineInFlight = true ∧
    (logging (handed .logged 1 true) none).engineInFlight = false ∧
    ¬ ((handed (.slot 0 1) 1 false).role = .logged ∧ (handed (.slot 0 1) 1 false).granted = true) ∧
    (let s := logging (handed .restore 1 true) none
     let r := s.setEngine { s.engine with restoring := true }
     r.engine.state = .logging ∧ r.engine.current = some (.port .a) ∧ r.engine.word = some (handed .restore 1 true) ∧
     r.engine.restoring = true) := by decide +kernel

/-! ### Client cycles -/

/-- Ports that can take a cycle before READY and in reset, and one that cannot. -/
theorem witness_CyclesBeforeReadyAreCounted :
    ((readingProfile []).canTake .a ∧ (readingProfile []).stage ≠ .operating ∧ (readingProfile []).stage ≠ .stopped) ∧
    (State.reset.canTake .b ∧ State.reset.stage = .stopped) ∧
    ((waitingFor .a .read 0x7000#20).ports.get .a).state ≠ .idle := by
  unfold State.canTake
  decide +kernel

/-- Ports HELD, IDLE and ENDING, and the memory port free and in use, for a read and a write, on both sides of the
bank boundary. -/
theorem witness_StrobesAndLinesFollowTheState :
    ((waitingFor .a .read 0x7000#20).ports.get .a).state = .held ∧
    ((waitingFor .a .read 0x7000#20).ports.get .a).cycle = some (cycle .read 0x7000#20) ∧
    (ready.ports.get .a).state ≠ .held ∧ (ready.ports.get .a).state ≠ .ending ∧
    (let c := (ready.withEnded .a .read 0x7000#20 false (some 5#16)).ports.get .a
     c.state = .ending ∧ c.cycle = some { cycle .read 0x7000#20 with answer := some 5#16 }) ∧
    ready.inFlight = none ∧
    (∀ kind x, (forwardedNow .a kind x).inFlight = some { holder := .client .a, kind := kind, addr := x }) ∧
    (0x7FFFF#20).toNat < 524288 ∧ 524288 ≤ (0x80000#20).toNat := by
  refine ⟨by decide +kernel, by decide +kernel, by decide +kernel, by decide +kernel, by decide +kernel,
    by decide +kernel, fun _ _ => rfl, by decide, by decide⟩

/-- Reads at both ends of the journal area, in a window of the other port, in a hidden window, of a staged word,
and at the word after the journal area, out of session and in session. -/
theorem witness_ReadsTakeTheirCourse :
    (ready.canTake .b ∧ ready.stage = .operating ∧ (holding .staging none).canTake .a) ∧
    (ready.commandAddress .b = 0xFF01#20 ∧ ready.inJournal 0x8000#20 = true ∧ ready.inJournal 0x8037#20 = true) ∧
    (ready.windowOf 0x4000#20 = some 3 ∧ (ready.window 3).ports.get .b = false) ∧
    (ready.windowOf 0x4FFF#20 = some 3 ∧ (ready.window 3).policy = .hidden) ∧
    ((holding .staging none).lookup .a 0x2004#20 = some 0xBEEF#16 ∧
      (holding .staging none).inJournal 0x2004#20 = false ∧ (holding .staging none).windowOf 0x2004#20 = some 1 ∧
      ((holding .staging none).window 1).ports.get .a = true ∧
      ((holding .staging none).window 1).policy ≠ .hidden) ∧
    (ready.inJournal 0x8038#20 = false ∧ ready.windowOf 0x8038#20 = none ∧ ready.lookup .b 0x8038#20 = none) ∧
    (ready.sessions.get .b = none ∧ (holding .staging none).sessions.get .a = some session) := by
  unfold State.canTake
  decide +kernel

/-- An own staged entry, the other port's applied entry, a RECOVERY entry, and none. -/
theorem witness_LookupFindsTheEntryThatMayAnswer :
    (((holding .staging none).txns.get .a).state = .staging ∧
      ∃ e ∈ (holding .staging none).sb, e.owner = .port .a ∧ e.addr = 0x2004#20) ∧
    (((working .applying .applying).txns.get .a).state = .applying ∧
      ((working .applying .applying).txns.get .b).state = .none ∧
      ∃ e ∈ (working .applying .applying).sb, e.owner = .port .a ∧ e.addr = 0x2004#20) ∧
    (let s := { ready with sb := [{ entry with owner := .recovery }] }
     (s.txns.get .a).state = .none ∧ (s.txns.get .b).state = .none ∧
     ∃ e ∈ s.sb, e.owner = .recovery ∧ e.addr = 0x2004#20) ∧
    ready.sb = [] := by decide +kernel

/-- Writes into the journal area, into a window of the other port, under the fence, into read-only, hidden and
guarded windows, over a RECOVERY entry, into a claimed window, and into the background. -/
theorem witness_WritesAreRefusedOrForwarded :
    (ready.canTake .a ∧ ready.canTake .b ∧ fenced.canTake .b ∧ ready.sessions.get .a = none) ∧
    (ready.inJournal 0x8000#20 = true ∧ ready.inJournal 0x8037#20 = true ∧ ready.inJournal 0x7FFF#20 = false) ∧
    (ready.inJournal 0x4000#20 = false ∧ ready.windowOf 0x4000#20 = some 3 ∧
      (ready.window 3).ports.get .b = false) ∧
    (fenced.inJournal 0x7000#20 = false ∧ fenced.admits .b (fenced.windowOf 0x7000#20) = true ∧
      fenced.fence = .fenced) ∧
    (ready.fence = .opened ∧ ready.windowOf 0x3FFF#20 = some 2 ∧ (ready.window 2).policy = .readOnly ∧
      ready.windowOf 0x4000#20 = some 3 ∧ ready.admits .a (some 3) = true ∧ (ready.window 3).policy = .hidden ∧
      ready.windowOf 0x1000#20 = some 0 ∧ (ready.window 0).policy = .guarded ∧ ready.leasedTo 0 .b = false) ∧
    (let s := { ready with profile := some { plan with background := .readOnly } }
     s.windowOf 0x7000#20 = none ∧ s.active.background = .readOnly) ∧
    (let s := { ready with sb := [{ entry with owner := .recovery }] }
     s.permits .b (s.windowOf 0x2004#20) = true ∧ ∃ e ∈ s.sb, e.owner = .recovery ∧ e.addr = 0x2004#20) ∧
    (let s := holding .staging none
     s.permits .b (s.windowOf 0x2FFF#20) = true ∧ s.recoveryHolds 0x2FFF#20 = false ∧
     s.windowOf 0x2FFF#20 = some 1 ∧ stages (s.txns.get .b).state = false ∧ s.claim 1 ≠ none) ∧
    (ready.inJournal 0x8038#20 = false ∧ ready.admits .a (ready.windowOf 0x8038#20) = true ∧
      ready.permits .a (ready.windowOf 0x8038#20) = true ∧ ready.recoveryHolds 0x8038#20 = false ∧
      ready.windowOf 0x8038#20 = none) ∧
    (leased.canTake .a ∧ leased.permits .a (leased.windowOf 0x1FFF#20) = true ∧ leased.windowOf 0x1FFF#20 = some 0 ∧
      leased.claim 0 = none ∧ (leased.window 0).transactional = false) := by
  unfold State.canTake
  decide +kernel

/-- The stage buffer with n words of the other port, and port A's entry. -/
def crowdedStage (n : Nat) : State := { holding .staging none with
  sb := entry :: List.replicate n { owner := .port .b, addr := 0x9000#20, data := 0#16, position := 0 } }

/-- The conditions of a stage-bound write by port A at 0x2004 or 0x2005. -/
def stageBoundAt (s : State) (x : Addr) : Bool :=
  decide (s.supply = true) && decide ((s.ports.get .a).state = .idle) && decide (s.stage = .operating) &&
    decide (x ≠ s.commandAddress .a) && !s.inJournal x && decide (s.windowOf x = some 1) &&
    (s.window 1).ports.get .a && decide (s.fence = .opened) && s.permits .a (some 1) && !s.recoveryHolds x &&
    (s.window 1).transactional && decide ((s.sqr.get .a).state = .session)

/-- Writes in OVERFLOWED, into the other port's claim, over an own entry, with 512 and 511 places taken, at 16
entries, and joining. -/
theorem witness_StageBoundWritesAreStaged :
    (let s := holding .overflowed none
     stageBoundAt s 0x2004#20 = true ∧ (s.txns.get .a).state = .overflowed) ∧
    (let s := { holding .staging none with sb := [] }.setClaim 1 (some .b)
     stageBoundAt s 0x2004#20 = true ∧ (s.txns.get .a).state = .staging ∧ s.claim 1 = some (otherPort .a)) ∧
    (let s := holding .staging none
     stageBoundAt s 0x2004#20 = true ∧ s.claim 1 ≠ some (otherPort .a) ∧
     ∃ e ∈ s.sb, e.owner = .port .a ∧ e.addr = 0x2004#20) ∧
    (let s := crowdedStage 511
     stageBoundAt s 0x2005#20 = true ∧ (¬ ∃ e ∈ s.sb, e.owner = .port .a ∧ e.addr = 0x2005#20) ∧ 512 ≤ s.sb.length) ∧
    (let s := { crowdedStage 510 with profile := some { plan with journalCapacity := 1#16 } }
     stageBoundAt s 0x2005#20 = true ∧ (¬ ∃ e ∈ s.sb, e.owner = .port .a ∧ e.addr = 0x2005#20) ∧
     s.sb.length < 512 ∧ s.active.journalCapacity.toNat ≤ s.entryCount (.port .a)) ∧
    (let s := holding .staging none
     stageBoundAt s 0x2005#20 = true ∧ (¬ ∃ e ∈ s.sb, e.owner = .port .a ∧ e.addr = 0x2005#20) ∧
     s.sb.length < 512 ∧ s.entryCount (.port .a) < s.active.journalCapacity.toNat) := by decide +kernel

/-! ### Recognizers -/

/-- The condition of an observed write. -/
def observing (s : State) (p : Port) : Bool :=
  decide ((s.sqr.get p).state = .watching) && decide (s.stage = .operating) && decide (s.fence = .opened)

/-- Key 0 after two steps: a write that completes it, one that breaks it before the limit and at it, and one that
breaks nothing. -/
theorem witness_ObservedWriteMovesTheKeys :
    (∀ n, observing (partWayThrough n) .a = true) ∧ observing ready .a = true ∧
    (let k := (partWayThrough 0).key 0
     k.stepCount ≠ 0#4 ∧ 0x102#20 = (keyStep k 2).addr ∧
     0x33FF#16 &&& (keyStep k 2).mask = (keyStep k 2).value &&& (keyStep k 2).mask ∧ 2 + 1 = k.stepCount.toNat) ∧
    (let k := (partWayThrough 0).key 0
     k.stepCount ≠ 0#4 ∧ 2 ≤ ((partWayThrough 1).sqr.get .a).progress[0] ∧ 0x103#20 ≠ (keyStep k 2).addr ∧
     ((partWayThrough 1).sqr.get .a).breaks + 1 ≠ (partWayThrough 1).active.breakLimit.toNat ∧
     ((partWayThrough 2).sqr.get .a).breaks + 1 = (partWayThrough 2).active.breakLimit.toNat) ∧
    (∀ k : Fin 4, (ready.sqr.get .a).progress[k] < 2 ∧ 0x102#20 ≠ (keyStep (ready.key k) 0).addr) := by
  refine ⟨fun n => rfl, ?_⟩
  decide +kernel

/-- A step timer running with progress below 2, with progress 2 before the limit and at it. -/
theorem witness_StepTimerExpiryClearsProgress :
    (let s := ready.setSqr .a { Sqr.fresh with progress := #v[1, 0, 0, 0], stepTimer := .running 50 }
     (s.sqr.get .a).state = .watching ∧ (s.sqr.get .a).stepTimer ≠ .stopped ∧
     ∀ k : Fin 4, (s.sqr.get .a).progress[k] < 2) ∧
    (∀ n ∈ [1, 2], ((partWayThrough n).sqr.get .a).state = .watching ∧
      ((partWayThrough n).sqr.get .a).stepTimer ≠ .stopped ∧
      ∃ k : Fin 4, 2 ≤ ((partWayThrough n).sqr.get .a).progress[k]) ∧
    1 + 1 ≠ (partWayThrough 1).active.breakLimit.toNat ∧ 2 + 1 = (partWayThrough 2).active.breakLimit.toNat := by
  decide +kernel

/-- A lockout timer running. -/
theorem witness_LockoutEnds :
    (lockedOut.sqr.get .a).state = .lockedOut ∧ (lockedOut.sqr.get .a).lockoutTimer ≠ .stopped := by decide +kernel

/-! ### The command address -/

/-- A session with a word in its queue and one without. -/
theorem witness_CommandAddressReadsTheQueue :
    (∀ y ∈ [session, { session with responses := [0x0600#16] }],
      (inSession y).canTake .a ∧ (inSession y).stage = .operating ∧ (inSession y).sessions.get .a = some y) ∧
    session.responses = [] := by
  unfold State.canTake
  decide +kernel

/-- Operand 16, a disabled window, windows not allowed, leased to the port, leased to the other, claimed by the
other, in HOLDOFF, and CLOSED; with 7 words in the queue one word is free. -/
theorem witness_OpenAnswersAndLeases :
    (inSession { session with responses := List.replicate 7 0#16 }).takesVerb .a
      { session with responses := List.replicate 7 0#16 } 1 ∧
    (inSession session).takesVerb .a session 1 ∧ 15 < (16#8).toNat ∧
    ((15#8).toNat = (15 : Fin 16).val ∧ (ready.window 15).enable = false) ∧
    ((ready.window 1).enable = true ∧ (ready.window 1).policy ≠ .guarded) ∧
    ((ready.window 0).enable = true ∧ (ready.window 0).policy = .guarded ∧
      (ready.window 0).keyMask.getLsbD session.key.val = true ∧ (ready.window 0).ports.get .a = true) ∧
    (leased.takesVerb .a session 1 ∧ leased.leasedTo 0 .a = true) ∧
    (let s := (inSession session).setLease 0 (.leased { lease with holder := .b })
     s.takesVerb .a session 1 ∧ s.leasedTo 0 .a = false ∧ s.leasedTo 0 (otherPort .a) = true) ∧
    (let s := (inSession session).setClaim 0 (some .b)
     s.takesVerb .a session 1 ∧ s.claim 0 = some (otherPort .a)) ∧
    (let s := (inSession session).setLease 0 (.holdoff 300)
     s.takesVerb .a session 1 ∧ s.leasedTo 0 .a = false ∧ s.leasedTo 0 .b = false ∧ s.lease 0 = .holdoff 300) ∧
    ((inSession session).lease 0 = .closed ∧ (inSession session).claim 0 = none) := by
  unfold State.takesVerb State.canTake
  decide +kernel

/-- Operand 16, a disabled window, a window not leased to the port and one that is. -/
theorem witness_CloseEndsTheLease :
    leased.takesVerb .a session 1 ∧ 15 < (16#8).toNat ∧ (leased.window 15).enable = false ∧
    (leased.window 1).enable = true ∧ leased.leasedTo 1 .a = false ∧ (leased.window 0).enable = true ∧
    leased.lease 0 = .leased lease ∧ lease.holder = .a := by
  unfold State.takesVerb State.canTake
  decide +kernel

/-- Sessions with and without the TXN right, no journal area, a transaction in hand, and a FAULTED engine. -/
theorem witness_BeginCreatesTheTransaction :
    ((inSession { session with txn := false }).takesVerb .a { session with txn := false } 1) ∧
    (let s := { inSession session with profile := some { plan with journalCapacity := 0#16 } }
     s.takesVerb .a session 1 ∧ session.txn = true ∧ s.active.journalCapacity = 0#16) ∧
    ((inSession session).active.journalCapacity ≠ 0#16 ∧ ((inSession session).txns.get .a).state = .none ∧
      (inSession session).engine.state ≠ .faulted ∧ (inSession session).takesVerb .a session 1) ∧
    ((holding .staging none).takesVerb .a session 1 ∧ ((holding .staging none).txns.get .a).state ≠ .none) ∧
    (let s := (inSession session).setEngine { Engine.fresh with state := .faulted }
     s.takesVerb .a session 1 ∧ s.engine.state = .faulted ∧ (s.txns.get .a).state = .none) := by
  unfold State.takesVerb State.canTake
  decide +kernel

/-- A transaction in each state, an engine FAULTED, and the queue empty and not. -/
theorem witness_CommitAcceptsTheTransaction :
    (∀ t ∈ [TxnState.none, .staging, .overflowed, .queued, .logging, .applying, .clearing],
      (holding t none).takesVerb .a session 1 ∧ ((holding t none).txns.get .a).state = t) ∧
    ((inSession { session with txn := false }).takesVerb .a { session with txn := false } 1) ∧
    session.txn = true ∧
    ((holding .staging none).setEngine { Engine.fresh with state := .faulted }).engine.state = .faulted ∧
    { holding .staging none with sb := [] }.entryCount (.port .a) = 0 ∧
    ((holding .staging none).entryCount (.port .a) ≠ 0 ∧ (holding .staging none).commitQueue = [] ∧
      (holding .staging none).engine.state = .idle) ∧
    { holding .staging none with commitQueue := [.b] }.commitQueue ≠ [] ∧
    ((holding .staging none).setEngine { Engine.fresh with state := .clearing }).engine.state ≠ .idle := by
  unfold State.takesVerb State.canTake
  decide +kernel

/-- A transaction in each state. -/
theorem witness_AbortEndsTheTransaction :
    (∀ t ∈ [TxnState.none, .staging, .overflowed, .queued, .logging, .applying, .clearing],
      (holding t none).takesVerb .a session 1 ∧ ((holding t none).txns.get .a).state = t) ∧
    ((inSession { session with txn := false }).takesVerb .a { session with txn := false } 1) ∧
    session.txn = true := by
  unfold State.takesVerb State.canTake
  decide +kernel

/-- Five words free, and three used. -/
theorem witness_StatusReportsFourWords :
    (inSession { session with responses := List.replicate 3 0#16 }).takesVerb .a
      { session with responses := List.replicate 3 0#16 } 5 := by
  unfold State.takesVerb State.canTake
  decide +kernel

/-- No EVENTS right, no reader, no record for the port, and a record behind one of the other port. -/
theorem witness_NextEventDeliversTheOldest :
    (inSession { session with events := false }).takesVerb .a { session with events := false } 6 ∧
    { inSession session with profile := some { plan with readers := { a := false, b := true } } }.reader .a = false ∧
    ((inSession session).takesVerb .a session 6 ∧ session.events = true ∧ (inSession session).reader .a = true ∧
      (inSession session).records = []) ∧
    (∀ b ∈ [true, false],
      let other := record { a := false, b := true } .started
      let mine := record { a := true, b := b } .portDenied
      let s := { inSession session with records := [other, mine] }
      s.takesVerb .a session 6 ∧ s.records = [other] ++ mine :: [] ∧ other.notice.audience.get .a = false ∧
      mine.notice.audience.get .a = true) := by
  unfold State.takesVerb State.canTake
  decide +kernel

/-- One word free, and verb bytes on both sides of those known. -/
theorem witness_MaskIsSetAndUnknownVerbsAnswered :
    (inSession session).takesVerb .a session 1 ∧ (Instr.badVerb ⟨.a, false⟩ 0#8 7#8).wellFormed = true ∧
    (Instr.badVerb ⟨.a, false⟩ 10#8 7#8).wellFormed = true := by
  unfold State.takesVerb State.canTake
  decide +kernel

/-- Queues with 8, 4 and 3 words, one free word too few for each need. -/
theorem witness_FullQueueRefusesTheCommand :
    ∀ n ∈ [(8, 1), (4, 5), (3, 6)],
      let y := { session with responses := List.replicate n.1 0#16 }
      (inSession y).canTake .a ∧ (inSession y).stage = .operating ∧ (inSession y).sessions.get .a = some y ∧
      freeWords y < n.2 ∧ (Instr.badVerb ⟨.a, false⟩ 0#8 0#8).wellFormed = true := by
  unfold State.canTake
  decide +kernel

/-- A session with a lease, and a port without a session. -/
theorem witness_EndAndIdleExpiryEndTheSession :
    leased.takesVerb .a session 0 ∧ leased.sessions.get .a = some session ∧ leased.sessions.get .b = none := by
  unfold State.takesVerb State.canTake
  decide +kernel

/-! ### Leases and the end of a transaction -/

/-- Leases with and without a lifetime, with no limit, with one unit and with two, in HOLDOFF and CLOSED. -/
theorem witness_LeasesSpendAndEnd :
    (∀ r ∈ [lease, { lease with lifetime := .stopped }, { lease with budget := none },
        { lease with budget := some 2#16 }],
      ((inSession session).setLease 0 (.leased r)).lease 0 = .leased r ∧ r.holder = .a ∧ r.holder ≠ .b) ∧
    lease.lifetime ≠ .stopped ∧ lease.budget = some 1#16 ∧
    (ready.setLease 15 (.holdoff 300)).lease 15 = .holdoff 300 ∧ ready.lease 0 = .closed := by decide +kernel

/-- An accepted commit whose session awaits it, with room for the outcome word and without, and one that none
awaits. -/
theorem witness_TransactionsEndWhole :
    (∀ n ∈ [7, 8],
      let y := { session with awaited := true, responses := List.replicate n 0#16 }
      let s := (working .clearing .clearing).setSession .a (some y)
      (s.txns.get .a).state = .clearing ∧ (s.txns.get .a).linked = true ∧ s.sessions.get .a = some y ∧
      y.awaited = true ∧ y.responses.length = n) ∧
    ((holding .staging none).txns.get .a).state = .staging ∧
    ((working .clearing .clearing).sessions.get .a = some session ∧ session.awaited = false) := by decide +kernel

/-! ### The fence and events -/

/-- The part in operation with a transaction in LOGGING whose word is in flight, and before READY. -/
theorem witness_PwrgoodFallFencesThePart :
    let s := logging (handed .logged 1 true) (some (.write 0xA55A#16))
    (s.stage = .operating ∧ s.fence = .opened ∧ SessionLaw s ∧ LeaseLaw s ∧ CommitLaw s) ∧
    (readingProfile []).stage ≠ .operating := by
  refine ⟨⟨rfl, rfl, ?_, ?_, ?_⟩, by decide +kernel⟩
  · unfold SessionLaw onBoth SessionLawOf
    decide +kernel
  · intro w r h
    have closed : ∀ v : Fin 16, (logging (handed .logged 1 true) (some (.write 0xA55A#16))).lease v = .closed := by
      decide +kernel
    exact absurd ((closed w).symm.trans h) (by simp)
  · unfold CommitLaw onBoth
    decide +kernel

/-- The part FENCED, with the fence OPEN, and before READY. -/
theorem witness_PwrgoodRiseOpensTheFence :
    fenced.fence = .fenced ∧ ready.fence = .opened ∧ (readingProfile []).stage ≠ .operating := by decide +kernel

/-- An event waiting before 30 and 31 records, and before a marker. -/
theorem witness_ArrivalsAreStoredOrCounted :
    (∀ n ∈ [30, 31], (crowded n).raised ≠ [] ∧ (crowded n).records.length = n ∧
      ∀ r ∈ (crowded n).records, r.notice.name ≠ .overflow) ∧
    ((after .eventArrival (crowded 31)).raised ≠ [] ∧
      ∃ r ∈ (after .eventArrival (crowded 31)).records, r.notice.name = .overflow) := by decide +kernel

/-- An event for a port that reads, and one for a port that does not. -/
theorem witness_EventsReachTheReadersConcerned :
    (decide (Concerned.port .a = .port .a ∨ Concerned.port .a = .part) && ready.active.readers.a) = true ∧
    (let s := { ready with profile := some { plan with readers := { a := false, b := true } } }
     (decide (Concerned.port .a = .port .a ∨ Concerned.port .a = .part) && s.active.readers.a ||
        decide (Concerned.port .a = .port .b ∨ Concerned.port .a = .part) && s.active.readers.b) = false) := by
  decide +kernel

end Sys2Proof.Tests
end

