-- ==== Sys2Proof/Proofs/KeySequences.lean ====
section
/-! SUPPORT. Key sequences and lockout (chapter 2): what one observed write and one step-timer expiry do to the
recognizer of their port. -/

namespace Sys2Proof.Machine

/-! ### The four keys -/

theorem mem_allKeys (k : Fin 4) : k ∈ allKeys := List.mem_finRange k

theorem allKeys_any_iff (f : Fin 4 → Bool) : allKeys.any f = true ↔ ∃ k, f k = true := by
  simp [List.any_eq_true, mem_allKeys]

/-- A search of the keys finds the lowest-numbered key that passes the test. -/
theorem allKeys_find?_of_lowest {f : Fin 4 → Bool} {k : Fin 4} (hk : f k = true) (hlow : ∀ j < k, ¬ f j = true) :
    allKeys.find? f = some k := by
  have hkeys : allKeys = List.finRange 4 := rfl
  rw [hkeys, List.find?_eq_some_iff_getElem]
  refine ⟨hk, k.val, by simp, by simp, fun j hj => ?_⟩
  simpa using hlow ⟨j, by omega⟩ hj

/-! ### What a write does to one key (02 R29 to R31) -/

theorem keyAdvances_iff (k : Key) (n : Nat) (x : Addr) (d : Word) :
    keyAdvances k n x d = true ↔
      keyEnabled k = true ∧ (stepMatches (keyStep k n) x d = true ∨ stepMatches (keyStep k 0) x d = true) := by
  simp [keyAdvances]

theorem keyBroken_iff (k : Key) (n : Nat) (x : Addr) (d : Word) :
    keyBroken k n x d = true ↔ keyEnabled k = true ∧ 2 ≤ n ∧ stepMatches (keyStep k n) x d = false := by
  simp [keyBroken, and_assoc]

theorem keyCompletes_iff (k : Key) (n : Nat) (x : Addr) (d : Word) :
    keyCompletes k n x d = true ↔
      keyEnabled k = true ∧ stepMatches (keyStep k n) x d = true ∧ n + 1 = k.stepCount.toNat := by
  simp [keyCompletes, and_assoc]

/-! ### What a write does to the recognizer -/

theorem movedProgress_getElem (s : State) (q : Sqr) (x : Addr) (d : Word) (k : Fin 4) :
    (movedProgress s q x d)[k] = newProgress (s.key k) q.progress[k] x d := by
  fin_cases k <;> rfl

/-- Some key is broken by the write (02 R30). -/
def breaksSome (s : State) (q : Sqr) (x : Addr) (d : Word) : Bool :=
  allKeys.any (fun k => keyBroken (s.key k) q.progress[k] x d)

theorem breaksSome_iff (s : State) (q : Sqr) (x : Addr) (d : Word) :
    breaksSome s q x d = true ↔ ∃ k : Fin 4, keyBroken (s.key k) q.progress[k] x d = true :=
  allKeys_any_iff _

theorem completing_of_lowest {s : State} {q : Sqr} {x : Addr} {d : Word} {k : Fin 4}
    (hk : keyCompletes (s.key k) q.progress[k] x d = true)
    (hlow : ∀ j < k, ¬ keyCompletes (s.key j) q.progress[j] x d = true) : s.completing q x d = some k :=
  allKeys_find?_of_lowest hk hlow

theorem completing_eq_none {s : State} {q : Sqr} {x : Addr} {d : Word}
    (h : ∀ k : Fin 4, ¬ keyCompletes (s.key k) q.progress[k] x d = true) : s.completing q x d = none :=
  List.find?_eq_none.mpr fun k _ => h k

/-! ### Breaks and lockout (02 R30, R34, R36) -/

@[simp] theorem setSqr_setSqr (s : State) (p : Port) (q r : Sqr) : (s.setSqr p q).setSqr p r = s.setSqr p r := by
  simp [State.setSqr]

@[simp] theorem setSqr_active (s : State) (p : Port) (q : Sqr) : (s.setSqr p q).active = s.active := rfl

/-- A lockout overwrites the recognizer just set, and keeps its break count alone. -/
theorem enterLockout_setSqr (p : Port) (cause : Word) (q : Sqr) (s : State) :
    enterLockout p cause (s.setSqr p q) =
      raise .keyLockout (.port p) none cause s.active.lockoutTime (s.setSqr p (lockedSqr s q)) := by
  simp [enterLockout, lockedSqr]

theorem countBreak_of_ne_limit {p : Port} {cause : Word} {q : Sqr} {s : State} (h : q.breaks + 1 ≠ s.breakLimit) :
    countBreak p cause q s = s.setSqr p { q with breaks := q.breaks + 1 } :=
  if_neg h

theorem countBreak_of_eq_limit {p : Port} {cause : Word} {q : Sqr} {s : State} (h : q.breaks + 1 = s.breakLimit) :
    countBreak p cause q s =
      raise .keyLockout (.port p) none cause s.active.lockoutTime
        (s.setSqr p (lockedSqr s { q with breaks := q.breaks + 1 })) :=
  (if_pos h).trans (enterLockout_setSqr p cause _ s)

/-! ### The three courses of an observed write -/

/-- A WATCHING recognizer observes the write when the part is READY and not FENCED (02 R28). -/
theorem observe_eq_takeWrite {s : State} {p : Port} (hwatch : (s.sqr.get p).state = .watching)
    (hstage : s.stage = .operating) (hfence : s.fence = .opened) (x : Addr) (d : Word) :
    observe p x d s = takeWrite p x d s := by
  simp [observe, State.observes, State.ready, hwatch, hstage, hfence]

theorem takeWrite_of_completing {s : State} {p : Port} {x : Addr} {d : Word} {k : Fin 4}
    (h : s.completing (s.sqr.get p) x d = some k) : takeWrite p x d s = completeKey p k s := by
  simp only [takeWrite, h]

theorem takeWrite_of_break {s : State} {p : Port} {x : Addr} {d : Word}
    (hnone : s.completing (s.sqr.get p) x d = none) (hbreak : breaksSome s (s.sqr.get p) x d = true) :
    takeWrite p x d s = countBreak p 0#16 (movedSqr s (s.sqr.get p) x d) s := by
  simp only [takeWrite, hnone]
  exact if_pos hbreak

theorem takeWrite_of_no_break {s : State} {p : Port} {x : Addr} {d : Word}
    (hnone : s.completing (s.sqr.get p) x d = none) (hbreak : ¬ breaksSome s (s.sqr.get p) x d = true) :
    takeWrite p x d s = s.setSqr p (movedSqr s (s.sqr.get p) x d) := by
  simp only [takeWrite, hnone]
  exact if_neg hbreak

/-- Settles O41: the write takes one of three courses, a completion, a break or neither; each is one equation of
`takeWrite`, and the progress and the timer of the last two are those of `movedSqr`. -/
theorem observedWriteMovesTheKeys : Obligations.ObservedWriteMovesTheKeys := by
  intro s p x d hwatch hstage hfence q next first enabled completes breaks
  have hobserve : observe p x d s = takeWrite p x d s := observe_eq_takeWrite hwatch hstage hfence x d
  have hcompletes (k : Fin 4) : keyCompletes (s.key k) q.progress[k] x d = true ↔ completes k :=
    keyCompletes_iff _ _ x d
  have hbreaks : breaksSome s q x d = true ↔ ∃ k, breaks k :=
    (breaksSome_iff s q x d).trans (exists_congr fun k => keyBroken_iff _ _ x d)
  have hadvances : allKeys.any (fun k => keyAdvances (s.key k) q.progress[k] x d) = true ↔
      ∃ k, enabled k = true ∧ (next k = true ∨ first k = true) :=
    (allKeys_any_iff _).trans (exists_congr fun k => keyAdvances_iff _ _ x d)
  rw [hobserve]
  refine ⟨fun k hk hlow => ?_, fun hno => ?_⟩
  · exact takeWrite_of_completing (completing_of_lowest ((hcompletes k).mpr hk)
      fun j hj => mt (hcompletes j).mp (hlow j hj))
  · have hnone : s.completing q x d = none := completing_eq_none fun k => mt (hcompletes k).mp (hno k)
    have hprogress := movedProgress_getElem s q x d
    by_cases hbreak : ∃ k, breaks k
    · have htake := takeWrite_of_break hnone (hbreaks.mpr hbreak)
      refine ⟨{ movedSqr s q x d with breaks := q.breaks + 1 }, hprogress, if_congr hadvances rfl rfl, hwatch, rfl,
        fun hnot => absurd hbreak (not_exists.mpr hnot), fun _ => ⟨rfl, fun hne => ?_, fun heq => ?_⟩⟩
      · exact htake.trans (countBreak_of_ne_limit hne)
      · exact htake.trans (countBreak_of_eq_limit heq)
    · exact ⟨movedSqr s q x d, hprogress, if_congr hadvances rfl rfl, hwatch, rfl,
        fun _ => ⟨rfl, takeWrite_of_no_break hnone (mt hbreaks.mp hbreak)⟩, fun hsome => absurd hsome hbreak⟩

/-! ### The step timer (02 R34) -/

theorem partWay_iff (q : Sqr) : partWay q = true ↔ ∃ k : Fin 4, 2 ≤ q.progress[k] := by
  simp [partWay, mem_allKeys]

theorem exec_stepTimerExpiry_of_partWay {s : State} {p : Port} (hwatch : (s.sqr.get p).state = .watching)
    (htimer : (s.sqr.get p).stepTimer ≠ .stopped) (hpart : partWay (s.sqr.get p) = true) :
    exec (.stepTimerExpiry p) s = .next (countBreak p 1#16 (clearedSqr (s.sqr.get p)) s) := by
  simp [exec, execStepTimerExpiry, hwatch, htimer, hpart]

theorem exec_stepTimerExpiry_of_not_partWay {s : State} {p : Port} (hwatch : (s.sqr.get p).state = .watching)
    (htimer : (s.sqr.get p).stepTimer ≠ .stopped) (hpart : ¬ partWay (s.sqr.get p) = true) :
    exec (.stepTimerExpiry p) s = .next (s.setSqr p (clearedSqr (s.sqr.get p))) := by
  simp [exec, execStepTimerExpiry, hwatch, htimer, hpart]

/-- Settles O42: the expiry clears the recognizer, and counts a break from there exactly when some key was part
way. -/
theorem stepTimerExpiryClearsProgress : Obligations.StepTimerExpiryClearsProgress := by
  intro s p hwatch htimer q cleared
  refine ⟨fun hlow => ?_, fun hpart => ?_⟩
  · have hnot : ¬ partWay q = true :=
      mt (partWay_iff q).mp (not_exists.mpr fun k => Nat.not_le.mpr (hlow k))
    exact exec_stepTimerExpiry_of_not_partWay hwatch htimer hnot
  · have hexec := exec_stepTimerExpiry_of_partWay hwatch htimer ((partWay_iff q).mpr hpart)
    refine ⟨fun hne => ?_, fun heq => ?_⟩
    · exact hexec.trans (congrArg _ (countBreak_of_ne_limit hne))
    · exact hexec.trans (congrArg _ (countBreak_of_eq_limit heq))

end Sys2Proof.Machine
end

/-! SUPPORT. Sessions and the command word (chapter 3): what the session controller performs for a command word of a
session, and the verbs OPEN, CLOSE and STATUS. -/

namespace Sys2Proof.Machine

/-! ### A command word reaches its verb (03 R46, R48, R51) -/

/-- A session as a command word finds it: the idle timer started afresh (03 R46). -/
def State.timed (s : State) (y : Session) : Session := { y with idleTimer := s.idleInterval }

@[simp] theorem timed_key (s : State) (y : Session) : (s.timed y).key = y.key := rfl

@[simp] theorem freeWords_timed (s : State) (y : Session) : freeWords (s.timed y) = freeWords y := rfl

/-- The state in which the session controller performs a command word: the port HELD with the cycle of the word, the
session timed afresh (03 R46, R48). -/
def State.hearing (s : State) (p : Port) (verb operand : Byte) (gone : Bool) (y : Session) : State :=
  (s.setPort p (heldPort (.write (commandWord verb operand)) (s.commandAddress p) gone (s.ports.get p))).setSession p
    (some (s.timed y))

section Hearing

variable (s : State) (p : Port) (verb operand : Byte) (gone : Bool) (y : Session)

@[simp] theorem hearing_enabledOperand (o : Byte) :
    (s.hearing p verb operand gone y).enabledOperand o = s.enabledOperand o := rfl

@[simp] theorem hearing_openResult (q : Port) (k : Fin 4) (w : Fin 16) :
    (s.hearing p verb operand gone y).openResult q k w = s.openResult q k w := rfl

@[simp] theorem hearing_leasedTo (w : Fin 16) (q : Port) :
    (s.hearing p verb operand gone y).leasedTo w q = s.leasedTo w q := rfl

@[simp] theorem hearing_lease (w : Fin 16) : (s.hearing p verb operand gone y).lease w = s.lease w := rfl

@[simp] theorem hearing_window (w : Fin 16) : (s.hearing p verb operand gone y).window w = s.window w := rfl

@[simp] theorem hearing_statusWords (q : Port) :
    (s.hearing p verb operand gone y).statusWords q = s.statusWords q := rfl

theorem hearing_session : (s.hearing p verb operand gone y).sessions.get p = some (s.timed y) := by
  simp [State.hearing]

end Hearing

/-- With the free words its verb needs, a command word is performed by its verb (03 R51). -/
theorem commandCycle_performVerb {s : State} {p : Port} {y : Session} {verb : Byte}
    (h : s.takesVerb p y (verbNeed verb)) (operand : Byte) (gone : Bool) :
    commandCycle p verb operand gone s =
      completeCycle p none
        (performVerb p (s.timed y) (commandWord verb operand) (s.hearing p verb operand gone y)) := by
  have ⟨_, _, _, hneed⟩ := h
  have hspace : ¬ freeWords (s.timed y) < verbNeed (verbByte (commandWord verb operand)) := by
    rw [verbByte_commandWord, freeWords_timed]
    exact Nat.not_lt.mpr hneed
  refine (commandCycle_session p verb operand gone s y _ h).trans (congrArg _ ?_)
  exact if_neg hspace

section Verbs

variable (p : Port) (x : Session) (operand : Byte) (s : State)

theorem performVerb_open : performVerb p x (commandWord 0x01#8 operand) s = scOpen p x operand s := by
  simp only [performVerb, verbByte_commandWord, operandByte_commandWord] <;> rfl

theorem performVerb_close : performVerb p x (commandWord 0x02#8 operand) s = scClose p operand s := by
  simp only [performVerb, verbByte_commandWord, operandByte_commandWord] <;> rfl

theorem performVerb_status : performVerb p x (commandWord 0x06#8 operand) s = scStatus p s := by
  simp only [performVerb, verbByte_commandWord] <;> rfl

end Verbs

/-! ### The end of the command word's cycle -/

theorem completeCycle_raise (p : Port) (a : Option Word) (n : EventName) (who : Concerned) (w : Option (Fin 16))
    (hi lo : Word) (s : State) :
    completeCycle p a (raise n who w hi lo s) = raise n who w hi lo (completeCycle p a s) := by
  rw [raise_told, raise_told]
  rfl

theorem completeCycle_setLease (p : Port) (a : Option Word) (w : Fin 16) (l : Lease) (s : State) :
    completeCycle p a (s.setLease w l) = (completeCycle p a s).setLease w l := rfl

/-- A verb whose whole effect is its response leaves the state `replied` (03 R48, R49). -/
theorem completeCycle_respond_hearing (s : State) (p : Port) (verb operand : Byte) (gone : Bool) (y : Session)
    (r : Result) (more : List Word) :
    completeCycle p none (respond p verb r more (s.hearing p verb operand gone y)) =
      s.replied p verb operand gone y (responseWord verb r :: more) := by
  rw [respond_session p verb r more _ _ (hearing_session s p verb operand gone y)]
  simp [completeCycle, State.hearing, State.replied, State.withEnded, State.setPort, State.setSession,
    completedPort_held, State.timed, State.idleInterval]

theorem respond_window (p : Port) (verb : Byte) (r : Result) (more : List Word) (s : State) (w : Fin 16) :
    (respond p verb r more s).window w = s.window w := by
  rw [respond_frame]
  rfl

theorem respond_lease (p : Port) (verb : Byte) (r : Result) (more : List Word) (s : State) (w : Fin 16) :
    (respond p verb r more s).lease w = s.lease w := by
  rw [respond_frame]
  rfl

/-! ### The window an operand names (03 R54 (a), R55; 11 R195) -/

theorem windowOperand_of_gt {operand : Byte} (h : 15 < operand.toNat) : windowOperand operand = none :=
  dif_neg (by omega)

theorem windowOperand_of_eq {operand : Byte} {w : Fin 16} (h : operand.toNat = w.val) :
    windowOperand operand = some w := by
  have hlt : operand.toNat < 16 := h ▸ w.isLt
  exact (dif_pos hlt).trans (congrArg some (Fin.ext h))

theorem enabledOperand_of_gt (s : State) {operand : Byte} (h : 15 < operand.toNat) :
    s.enabledOperand operand = none := by
  rw [State.enabledOperand, windowOperand_of_gt h, Option.filter_none]

theorem enabledOperand_of_disabled {s : State} {operand : Byte} {w : Fin 16} (h : operand.toNat = w.val)
    (hoff : (s.window w).enable = false) : s.enabledOperand operand = none := by
  simp [State.enabledOperand, windowOperand_of_eq h, hoff]

theorem enabledOperand_of_enabled {s : State} {operand : Byte} {w : Fin 16} (h : operand.toNat = w.val)
    (hon : (s.window w).enable = true) : s.enabledOperand operand = some w := by
  simp [State.enabledOperand, windowOperand_of_eq h, hon]

/-! ### The answer to OPEN of an enabled window (03 R54 (b) to (f)) -/

theorem leasable_iff (s : State) (p : Port) (k : Fin 4) (w : Fin 16) :
    s.leasable p k w = true ↔
      (s.window w).policy = .guarded ∧ (s.window w).keyMask.getLsbD k.val = true ∧
        (s.window w).ports.get p = true := by
  simp [State.leasable, and_assoc]

section OpenResult

variable {s : State} {p : Port} {k : Fin 4} {w : Fin 16}

theorem openResult_denied (h : ¬ s.leasable p k w = true) : s.openResult p k w = .denied := by
  simp [State.openResult, h]

theorem openResult_busy (h : s.leasable p k w = true) (hmine : s.leasedTo w p = true) :
    s.openResult p k w = .busy := by
  simp [State.openResult, h, hmine]

theorem openResult_conflict (h : s.leasable p k w = true) (hmine : s.leasedTo w p = false)
    (hother : s.leasedTo w (otherPort p) = true ∨ s.claim w = some (otherPort p)) :
    s.openResult p k w = .conflict := by
  simp [State.openResult, h, hmine, hother]

/-- A window that no refusal before (e) keeps from the port: CLOSED opens, HOLDOFF refuses. -/
theorem openResult_free (h : s.leasable p k w = true) (hmine : s.leasedTo w p = false)
    (hother : s.leasedTo w (otherPort p) = false) (hclaim : s.claim w ≠ some (otherPort p)) :
    s.openResult p k w = if s.lease w = .closed then .ok else .holdoff := by
  simp [State.openResult, h, hmine, hother, hclaim]

end OpenResult

/-! ### OPEN (03 R54, 04 R70) -/

theorem scOpen_badArg {s : State} {operand : Byte} (h : s.enabledOperand operand = none) (p : Port) (x : Session) :
    scOpen p x operand s = respond p 0x01#8 .badArg [] s := by
  simp only [scOpen, h]

theorem scOpen_refused {s : State} {p : Port} {x : Session} {operand : Byte} {w : Fin 16} {r : Result}
    (h : s.enabledOperand operand = some w) (hr : s.openResult p x.key w = r) (hne : r ≠ .ok) :
    scOpen p x operand s = respond p 0x01#8 r [] s := by
  simp only [scOpen, h, hr, if_neg hne]

theorem scOpen_opens {s : State} {p : Port} {x : Session} {operand : Byte} {w : Fin 16}
    (h : s.enabledOperand operand = some w) (hr : s.openResult p x.key w = .ok) :
    scOpen p x operand s = openLeaseFor p x.key w (respond p 0x01#8 .ok [] s) := by
  simp only [scOpen, h, hr, if_true]

theorem completeCycle_openLeaseFor (p : Port) (k : Fin 4) (w : Fin 16) (s : State) :
    completeCycle p none (openLeaseFor p k w s) =
      raise .leaseOpened (.port p) (some w) (BitVec.ofNat 16 k.val) (s.window w).lifetime
        ((completeCycle p none s).setLease w (.leased (newLease p k (s.window w)))) := by
  rw [openLeaseFor, completeCycle_raise, completeCycle_setLease]

section Open

variable {s : State} {p : Port} {y : Session} {operand : Byte} {gone : Bool} {w : Fin 16}

theorem exec_openLease (h : s.takesVerb p y 1) :
    exec (.openLease ⟨p, gone⟩ operand) s =
      .next (completeCycle p none (scOpen p (s.timed y) operand (s.hearing p 0x01#8 operand gone y))) := by
  have hcycle := commandCycle_performVerb (verb := 0x01#8) h operand gone
  rw [performVerb_open] at hcycle
  exact congrArg _ hcycle

theorem exec_openLease_badArg (h : s.takesVerb p y 1) (harg : s.enabledOperand operand = none) :
    exec (.openLease ⟨p, gone⟩ operand) s =
      .next (s.replied p 0x01#8 operand gone y [responseWord 0x01#8 .badArg]) := by
  rw [exec_openLease h, scOpen_badArg ((hearing_enabledOperand ..).trans harg), completeCycle_respond_hearing]

theorem exec_openLease_refused {r : Result} (h : s.takesVerb p y 1) (harg : s.enabledOperand operand = some w)
    (hr : s.openResult p y.key w = r) (hne : r ≠ .ok) :
    exec (.openLease ⟨p, gone⟩ operand) s =
      .next (s.replied p 0x01#8 operand gone y [responseWord 0x01#8 r]) := by
  rw [exec_openLease h, scOpen_refused (x := s.timed y) ((hearing_enabledOperand ..).trans harg)
    ((hearing_openResult ..).trans hr) hne, completeCycle_respond_hearing]

theorem exec_openLease_opens (h : s.takesVerb p y 1) (harg : s.enabledOperand operand = some w)
    (hr : s.openResult p y.key w = .ok) :
    exec (.openLease ⟨p, gone⟩ operand) s =
      .next (raise .leaseOpened (.port p) (some w) (BitVec.ofNat 16 y.key.val) (s.window w).lifetime
        ((s.replied p 0x01#8 operand gone y [responseWord 0x01#8 .ok]).setLease w
          (.leased (newLease p y.key (s.window w))))) := by
  rw [exec_openLease h, scOpen_opens (x := s.timed y) ((hearing_enabledOperand ..).trans harg)
    ((hearing_openResult ..).trans hr), completeCycle_openLeaseFor, completeCycle_respond_hearing,
    respond_window, hearing_window, timed_key]

end Open

/-- Settles O45: each branch is one answer of `openResult`, refused or, for a CLOSED window, opened. -/
theorem openAnswersAndLeases : Obligations.OpenAnswersAndLeases := by
  intro s p y operand gone h reply answers
  refine ⟨fun hbig => exec_openLease_badArg h (enabledOperand_of_gt s hbig),
    fun w hw => ⟨fun hoff => ?_, fun hon => ?_⟩⟩
  · exact exec_openLease_badArg h (enabledOperand_of_disabled hw hoff)
  intro allowed
  have harg : s.enabledOperand operand = some w := enabledOperand_of_enabled hw hon
  have hrefused (r : Result) (hr : s.openResult p y.key w = r) (hne : r ≠ .ok) :
      answers (s.replied p 0x01#8 operand gone y [responseWord 0x01#8 r]) := exec_openLease_refused h harg hr hne
  have hleasable : s.leasable p y.key w = true ↔ allowed := leasable_iff s p y.key w
  refine ⟨fun hnot => ?denied, fun hallowed => ?_⟩
  case denied => exact hrefused .denied (openResult_denied (mt hleasable.mp hnot)) (by decide)
  have hok := hleasable.mpr hallowed
  refine ⟨fun hmine => ?busy, fun hmine => ⟨fun hother => ?conflict, fun hother hclaim => ?_⟩⟩
  case busy => exact hrefused .busy (openResult_busy hok hmine) (by decide)
  case conflict => exact hrefused .conflict (openResult_conflict hok hmine hother) (by decide)
  have hfree := openResult_free hok hmine hother hclaim
  refine ⟨fun ms hholdoff => ?holdoff, fun hclosed => ?opened⟩
  case holdoff => exact hrefused .holdoff (hfree.trans (if_neg (by simp [hholdoff]))) (by decide)
  case opened => exact exec_openLease_opens h harg (hfree.trans (if_pos hclosed))

/-! ### CLOSE (03 R55, 04 R76, R77) -/

theorem leasedTo_of_lease {s : State} {w : Fin 16} {r : LeaseRecord} (h : s.lease w = .leased r) :
    s.leasedTo w r.holder = true := by
  simp [State.leasedTo, h, leaseHolder]

theorem scClose_badArg {s : State} {operand : Byte} (h : s.enabledOperand operand = none) (p : Port) :
    scClose p operand s = respond p 0x02#8 .badArg [] s := by
  simp only [scClose, h]

theorem scClose_none {s : State} {p : Port} {operand : Byte} {w : Fin 16} (h : s.enabledOperand operand = some w)
    (hmine : s.leasedTo w p = false) : scClose p operand s = respond p 0x02#8 .none [] s := by
  simp only [scClose, h, hmine, Bool.false_eq_true, if_false]

theorem scClose_ends {s : State} {p : Port} {operand : Byte} {w : Fin 16} (h : s.enabledOperand operand = some w)
    (hmine : s.leasedTo w p = true) :
    scClose p operand s = endLease w .close (respond p 0x02#8 .ok [] s) := by
  simp only [scClose, h, hmine, if_true]

theorem completeCycle_endLease (p : Port) (w : Fin 16) (c : LeaseCause) {s : State} {r : LeaseRecord}
    (h : s.lease w = .leased r) :
    completeCycle p none (endLease w c s) =
      raise .leaseEnded (.port r.holder) (some w) (leaseCauseCode c) r.count
        ((completeCycle p none s).setLease w (afterLease (s.window w))) := by
  rw [endLease_leased w c s r h, completeCycle_raise, completeCycle_setLease]

section Close

variable {s : State} {p : Port} {y : Session} {operand : Byte} {gone : Bool} {w : Fin 16}

theorem exec_closeLease (h : s.takesVerb p y 1) :
    exec (.closeLease ⟨p, gone⟩ operand) s =
      .next (completeCycle p none (scClose p operand (s.hearing p 0x02#8 operand gone y))) := by
  have hcycle := commandCycle_performVerb (verb := 0x02#8) h operand gone
  rw [performVerb_close] at hcycle
  exact congrArg _ hcycle

theorem exec_closeLease_badArg (h : s.takesVerb p y 1) (harg : s.enabledOperand operand = none) :
    exec (.closeLease ⟨p, gone⟩ operand) s =
      .next (s.replied p 0x02#8 operand gone y [responseWord 0x02#8 .badArg]) := by
  rw [exec_closeLease h, scClose_badArg ((hearing_enabledOperand ..).trans harg), completeCycle_respond_hearing]

theorem exec_closeLease_none (h : s.takesVerb p y 1) (harg : s.enabledOperand operand = some w)
    (hmine : s.leasedTo w p = false) :
    exec (.closeLease ⟨p, gone⟩ operand) s =
      .next (s.replied p 0x02#8 operand gone y [responseWord 0x02#8 .none]) := by
  rw [exec_closeLease h, scClose_none ((hearing_enabledOperand ..).trans harg)
    ((hearing_leasedTo ..).trans hmine), completeCycle_respond_hearing]

theorem exec_closeLease_ends {r : LeaseRecord} (h : s.takesVerb p y 1) (harg : s.enabledOperand operand = some w)
    (hlease : s.lease w = .leased r) (hmine : s.leasedTo w p = true) :
    exec (.closeLease ⟨p, gone⟩ operand) s =
      .next (raise .leaseEnded (.port r.holder) (some w) (leaseCauseCode .close) r.count
        ((s.replied p 0x02#8 operand gone y [responseWord 0x02#8 .ok]).setLease w (afterLease (s.window w)))) := by
  have hheld : (respond p 0x02#8 .ok [] (s.hearing p 0x02#8 operand gone y)).lease w = .leased r :=
    (respond_lease ..).trans ((hearing_lease ..).trans hlease)
  rw [exec_closeLease h, scClose_ends ((hearing_enabledOperand ..).trans harg)
    ((hearing_leasedTo ..).trans hmine), completeCycle_endLease p w .close hheld,
    completeCycle_respond_hearing, respond_window, hearing_window]

end Close

/-- Settles O46: BADARG for an operand that names no enabled window, NONE for a window not LEASED to the port, and
otherwise the end of its lease in full. -/
theorem closeEndsTheLease : Obligations.CloseEndsTheLease := by
  intro s p y operand gone h reply answers
  refine ⟨fun hbig => exec_closeLease_badArg h (enabledOperand_of_gt s hbig),
    fun w hw => ⟨fun hoff => ?_, fun hon => ?_⟩⟩
  · exact exec_closeLease_badArg h (enabledOperand_of_disabled hw hoff)
  have harg : s.enabledOperand operand = some w := enabledOperand_of_enabled hw hon
  refine ⟨fun hmine => exec_closeLease_none h harg hmine, fun r hlease hholder => ?_⟩
  subst hholder
  exact exec_closeLease_ends h harg hlease (leasedTo_of_lease hlease)

/-! ### STATUS (03 R59, 11 R196) -/

theorem windowBit_getLsbD (v w : Fin 16) : (1#16 <<< v.val).getLsbD w.val = decide (w = v) := by
  revert v w
  decide

/-- Gathering one bit for each window that passes a test sets exactly the bits of those windows. -/
theorem getLsbD_foldl_windowBits (f : Fin 16 → Bool) (ws : List (Fin 16)) (acc : Word) (w : Fin 16) :
    (ws.foldl (fun acc v => if f v then acc ||| (1#16 <<< v.val) else acc) acc).getLsbD w.val =
      (acc.getLsbD w.val || decide (w ∈ ws) && f w) := by
  induction ws generalizing acc with
  | nil => simp
  | cons v rest ih =>
    rw [List.foldl_cons, ih]
    have hstep : (if f v then acc ||| (1#16 <<< v.val) else acc).getLsbD w.val =
        (acc.getLsbD w.val || decide (w = v) && f v) := by
      cases f v <;> simp only [windowBit_getLsbD, BitVec.getLsbD_or, if_true, if_false, Bool.false_eq_true,
        Bool.and_true, Bool.and_false, Bool.or_false]
    rw [hstep]
    by_cases hv : w = v
    · subst hv
      cases f w <;> simp
    · simp [hv]

theorem mem_allWindows (w : Fin 16) : w ∈ allWindows := by
  revert w
  decide

theorem leaseWord_getLsbD (s : State) (p : Port) (w : Fin 16) :
    (s.leaseWord p).getLsbD w.val = s.leasedTo w p := by
  rw [State.leaseWord, getLsbD_foldl_windowBits (fun v => s.leasedTo v p)]
  simp [mem_allWindows]

/-- The middle field of a word of three fields. -/
theorem extractLsb'_append_middle {k m n : Nat} (a : BitVec k) (b : BitVec m) (c : BitVec n) :
    (a ++ (b ++ c)).extractLsb' n m = b := by
  rw [BitVec.extractLsb'_append_eq_of_add_le (by omega), BitVec.extractLsb'_append_eq_left]

/-- The low field of a word of three fields. -/
theorem extractLsb'_append_low {k m n : Nat} (a : BitVec k) (b : BitVec m) (c : BitVec n) :
    (a ++ (b ++ c)).extractLsb' 0 n = c := by
  rw [BitVec.extractLsb'_append_eq_of_add_le (by omega), BitVec.extractLsb'_append_eq_right]

theorem exec_status {s : State} {p : Port} {y : Session} (h : s.takesVerb p y 5) (operand : Byte) (gone : Bool) :
    exec (.status ⟨p, gone⟩ operand) s =
      .next (s.replied p 0x06#8 operand gone y (responseWord 0x06#8 .ok :: s.statusWords p)) := by
  have hcycle := commandCycle_performVerb (verb := 0x06#8) h operand gone
  rw [performVerb_status, scStatus, hearing_statusWords, completeCycle_respond_hearing] at hcycle
  exact congrArg _ hcycle

/-- Settles O50: the words are those of `statusWords`, and each field of words 1 and 4 is read from the append that
builds the word. -/
theorem statusReportsFourWords : Obligations.StatusReportsFourWords := by
  intro s p y operand gone h
  exact ⟨statusTxnWord (s.txns.get p).state (s.entryCount (.port p)), s.leaseWord p,
    statusEngineWord s.engine.state (s.recordsFor p), exec_status h operand gone,
    BitVec.extractLsb'_append_eq_left, extractLsb'_append_middle _ _ _, extractLsb'_append_low _ _ _,
    leaseWord_getLsbD s p,
    BitVec.extractLsb'_append_eq_left, extractLsb'_append_middle _ _ _, extractLsb'_append_low _ _ _⟩

end Sys2Proof.Machine

/-! SUPPORT. The end of a transaction (chapter 5): the entries and claims it leaves, the outcome event, and the outcome
word offered to the session that awaits it. -/

namespace Sys2Proof.Machine

/-! ### Accepted commits (03 R62) -/

theorem acceptedState_iff (t : TxnState) : acceptedState t = true ↔ t = .queued ∨ inEngine t = true := by
  cases t <;> simp [acceptedState, inEngine]

/-! ### Entries (05 R89, R106 (a)) -/

theorem entriesAfter_applyFault (p : Port) (es : List Entry) :
    entriesAfter p .applyFault es =
      es.map (fun e => if e.owner = .port p then { e with owner := .recovery } else e) :=
  rfl

theorem entriesAfter_of_ne {o : TxnOutcome} (h : o ≠ .applyFault) (p : Port) (es : List Entry) :
    entriesAfter p o es = es.filter (fun e => decide (e.owner ≠ .port p)) :=
  if_neg h

/-! ### The outcome event (05 R106 (e)) -/

section OutcomeEvent

variable (p : Port) (o : TxnOutcome) (number : Option Word) (count : Nat) (s : State)

theorem raiseOutcome_sessions : (raiseOutcome p o number count s).sessions = s.sessions := by
  unfold raiseOutcome
  rw [raise_frame]

/-- What the event adds depends on the readers alone, which the clearing of the transaction leaves as they were. -/
theorem raiseOutcome_clearTxn_raised (o' : TxnOutcome) :
    (raiseOutcome p o number count (clearTxn p o' s)).raised = (raiseOutcome p o number count s).raised := by
  unfold raiseOutcome
  rw [raise_told, raise_told]
  rfl

end OutcomeEvent

/-! ### The outcome word (03 R62) -/

section OutcomeWord

variable {p : Port} {linked : Bool} {y : Session} {s : State}

/-- The session that issued the COMMIT and awaits its outcome takes it. -/
theorem offerOutcome_of_awaited (hlinked : linked = true) (hopen : s.sessions.get p = some y)
    (hawaited : y.awaited = true) (o : TxnOutcome) :
    offerOutcome p linked o s = s.setSession p (some (offered o y)) := by
  simp [offerOutcome, hopen, hlinked, hawaited]

/-- Without a session that issued the COMMIT and awaits its outcome, nothing is offered. -/
theorem offerOutcome_of_unawaited
    (h : linked = false ∨ s.sessions.get p = none ∨ ∃ y, s.sessions.get p = some y ∧ y.awaited = false)
    (o : TxnOutcome) : offerOutcome p linked o s = s := by
  obtain hlinked | hclosed | ⟨y, hopen, hawaited⟩ := h
  · cases hopen : s.sessions.get p <;> simp [offerOutcome, hopen, hlinked]
  · simp [offerOutcome, hclosed]
  · simp [offerOutcome, hopen, hawaited]

/-- The outcome word joins the queue of fewer than eight words; a full queue takes the overrun flag in its place. -/
theorem offered_eq (o : TxnOutcome) (y : Session) :
    offered o y =
      if y.responses.length < 8
      then { y with awaited := false, responses := y.responses ++ [0xC0#8 ++ outcomeCode o] }
      else { y with awaited := false, overrun := true } :=
  rfl

end OutcomeWord

/-! ### The whole end (05 R106) -/

section EndTxn

variable (p : Port) (o : TxnOutcome) (s : State)

theorem endTxn_of_accepted (h : acceptedState (s.txns.get p).state = true) :
    endTxn p o s = offerOutcome p (s.txns.get p).linked o
      (raiseOutcome p o (s.txns.get p).number (s.entryCount (.port p)) (clearTxn p o s)) :=
  if_pos h

theorem endTxn_of_not_accepted (h : ¬ acceptedState (s.txns.get p).state = true) :
    endTxn p o s = raiseOutcome p o (s.txns.get p).number (s.entryCount (.port p)) (clearTxn p o s) :=
  if_neg h

/-- The end of a transaction raises TXN_OUTCOME, and nothing else. -/
theorem endTxn_raised :
    (endTxn p o s).raised =
      (raiseOutcome p o (s.txns.get p).number (s.entryCount (.port p)) s).raised := by
  by_cases h : acceptedState (s.txns.get p).state = true
  · rw [endTxn_of_accepted p o s h, offerOutcome_frame]
    exact raiseOutcome_clearTxn_raised ..
  · rw [endTxn_of_not_accepted p o s h]
    exact raiseOutcome_clearTxn_raised ..

theorem clearedOutcome_sessions (number : Option Word) (count : Nat) :
    (raiseOutcome p o number count (clearTxn p o s)).sessions = s.sessions :=
  raiseOutcome_sessions ..

theorem endTxn_sessions_of_awaited {y : Session} (haccepted : acceptedState (s.txns.get p).state = true)
    (hlinked : (s.txns.get p).linked = true) (hopen : s.sessions.get p = some y) (hawaited : y.awaited = true) :
    (endTxn p o s).sessions = s.sessions.set p (some (offered o y)) := by
  have hcleared := clearedOutcome_sessions p o s (s.txns.get p).number (s.entryCount (.port p))
  rw [endTxn_of_accepted p o s haccepted, offerOutcome_of_awaited hlinked (by rw [hcleared, hopen]) hawaited,
    setSession_sessions, hcleared]

theorem endTxn_sessions_of_unawaited
    (h : ¬ acceptedState (s.txns.get p).state = true ∨ (s.txns.get p).linked = false ∨ s.sessions.get p = none ∨
      ∃ y, s.sessions.get p = some y ∧ y.awaited = false) :
    (endTxn p o s).sessions = s.sessions := by
  have hcleared := clearedOutcome_sessions p o s (s.txns.get p).number (s.entryCount (.port p))
  by_cases haccepted : acceptedState (s.txns.get p).state = true
  · have hunawaited := h.resolve_left (not_not_intro haccepted)
    rw [endTxn_of_accepted p o s haccepted, offerOutcome_of_unawaited (by rwa [hcleared]), hcleared]
  · rw [endTxn_of_not_accepted p o s haccepted, hcleared]

end EndTxn

/-- Settles O56: each field that the end touches has its own equation, the session by whether it awaits the outcome of
an accepted commit, and the rest is the frame of `endTxn`. -/
theorem transactionsEndWhole : Obligations.TransactionsEndWhole := by
  intro s p o t number accepted
  have haccepted : acceptedState (s.txns.get p).state = true ↔ accepted := acceptedState_iff _
  have hsb : t.sb = entriesAfter p o s.sb := endTxn_sb p o s
  refine ⟨?leave, ?convert, ?claims, endTxn_commitQueue p o s, endTxn_txns p o s, endTxn_raised p o s, ?offered,
    ?unawaited, endTxn_frame p o s⟩
  case leave => exact fun hne => hsb.trans (entriesAfter_of_ne hne p s.sb)
  case convert =>
    rintro rfl
    exact hsb.trans (entriesAfter_applyFault p s.sb)
  case claims => exact endTxn_claim p o s
  case offered =>
    intro y hacc hlinked hopen hawaited
    rw [← offered_eq]
    exact endTxn_sessions_of_awaited p o s (haccepted.mpr hacc) hlinked hopen hawaited
  case unawaited =>
    exact fun h => endTxn_sessions_of_unawaited p o s (h.imp_left (mt haccepted.mp))

end Sys2Proof.Machine

/-! SUPPORT. Journal recovery (chapter 7): the course of a header read, the classification of a CLEAR header, and the
numbers a header that was found leaves. -/

namespace Sys2Proof.Machine

/-! ### The header's last word (07 R146) -/

section HeaderRead

variable {s : State}

theorem engineRead_of_inFlight {x : Addr} (h : s.inFlight = some { holder := .engine, kind := .read, addr := x }) :
    s.engineRead = some x := by
  rw [State.engineRead, h]

theorem exec_journalHeaderRead_of_header {x : Addr} (hphase : s.recovery.phase = .header)
    (hread : s.inFlight = some { holder := .engine, kind := .read, addr := x }) :
    exec .journalHeaderRead s = .next (takeHeaderWord (memRead s.memory x.toNat) s) := by
  change execJournalHeaderRead s = _
  rw [execJournalHeaderRead, hphase, engineRead_of_inFlight hread]
  rfl

theorem takeHeaderWord_of_four (w : Word) (h : s.recovery.header.length = 4) :
    takeHeaderWord w s = classifyHeader
      { s with recovery := { s.recovery with header := s.recovery.header ++ [w] }, inFlight := none } := by
  have hwhole : ¬ (s.recovery.header ++ [w]).length < 5 := by simp [h]
  exact if_neg hwhole

end HeaderRead

/-! ### A CLEAR header (07 R148, R153) -/

section ClearHeader

variable {s : State}

theorem classifyHeader_of_clear (h : s.headerRead 0 = Config.clearWord) :
    classifyHeader s = readyRise (s.recovered .idle .clear) := by
  have hunlogged : s.headerRead 0 ≠ Config.loggedWord := by rw [h]; decide
  rw [classifyHeader, if_neg hunlogged, if_pos h, endRecovery_recovered]

/-- A header that was found, CLEAR or LOGGED, gives its word 1 as the last cleared number and the number after it as
the next. -/
theorem recovered_of_found (e : EngineState) (r : RecoveryResult)
    (h : s.headerRead 0 = 0xA55A#16 ∨ s.headerRead 0 = 0x5AA5#16) :
    s.recovered e r = { s with
      recovery := { s.recovery with phase := .none, result := r },
      engine := { s.engine.atRest e with nextNumber := s.headerRead 1 + 1#16, lastCleared := s.headerRead 1 },
      waiting := { s.waiting with engine := none } } := by
  simp only [State.recovered, if_pos h]

end ClearHeader

/-- Settles O20: the fifth word completes the header, its state word classifies it as CLEAR, and the end of recovery
takes the numbers of a header found. -/
theorem clearHeaderSetsTheNumbers : Obligations.ClearHeaderSetsTheNumbers := by
  rintro s x w0 w1 w2 w3 hphase hheader hread rfl
  have hfour : s.recovery.header.length = 4 := by rw [hheader]; rfl
  rw [exec_journalHeaderRead_of_header hphase hread, takeHeaderWord_of_four _ hfour, hheader,
    classifyHeader_of_clear rfl, recovered_of_found .idle .clear (.inr rfl)]
  rfl

end Sys2Proof.Machine

/-! SUPPORT. The operations of chapters 2 to 6 and the steps of recovery, followed once for any relation between states
that holds over each single update they are made of. -/

namespace Sys2Proof.Machine

/-! ### Relations that hold over single updates -/

/-- A relation between states that composes and holds over each single update of the transactions, the engine and the
stage buffer: a transaction's new state stages only where the old one did, and a session's new record keeps its key
and stays within the response queue. -/
structure Closed (R : State → State → Prop) : Prop where
  refl : ∀ s, R s s
  trans : ∀ {s t u}, R s t → R t u → R s u
  raised : ∀ (s : State) {name : EventName}, name ≠ .overflow → ∀ who w hi lo, R s (raise name who w hi lo s)
  quiet : ∀ s t : State, t = { s with
    claims := t.claims, commitQueue := t.commitQueue, sb := t.sb, engine := t.engine,
    waiting := { s.waiting with engine := t.waiting.engine } } → R s t
  txn : ∀ (s : State) (p : Port) (t : Txn), (stages t.state = true → stages (s.txns.get p).state = true) →
    R s (s.setTxn p t)
  session : ∀ (s : State) (p : Port) (x y : Session), s.sessions.get p = some x → y.key = x.key →
    (x.responses.length ≤ Config.responseCapacity → y.responses.length ≤ Config.responseCapacity) →
    R s (s.setSession p (some y))

/-- Such a relation that holds over the steps of recovery and the rise of READY too. -/
structure RiseClosed (R : State → State → Prop) : Prop extends Closed R where
  recovery : ∀ (s : State) (r : Recovery), R s { s with recovery := r }
  rises : ∀ s : State, R s { s with stage := .operating, fence := if s.pwrgood then s.fence else .fenced }

/-! ### Transactions and the engine -/

namespace Closed

variable {R : State → State → Prop} (h : Closed R) (p : Port) (s : State)

include h

theorem setEngine (e : Engine) : R s (s.setEngine e) := h.quiet _ _ rfl

theorem setEngineRequest (q : Option Request) : R s (s.setEngineRequest q) := h.quiet _ _ rfl

theorem placeWord (role : WordRole) : R s (placeWord role s) := h.quiet _ _ rfl

theorem endEngine (e : EngineState) : R s (endEngine e s) := h.quiet _ _ rfl

theorem setStage (es : List Entry) : R s (s.setStage es) := h.quiet _ _ rfl

theorem foldl {α : Type} {f : State → α → State} (hf : ∀ s a, R s (f s a)) (as : List α) : R s (as.foldl f s) := by
  induction as generalizing s with
  | nil => exact h.refl s
  | cons a rest ih => exact h.trans (hf s a) (ih (f s a))

theorem offerOutcome (linked : Bool) (o : TxnOutcome) : R s (offerOutcome p linked o s) := by
  unfold Machine.offerOutcome
  split
  · next x hx =>
    split
    · refine h.session s p x (offered o x) hx ?_ ?_
      · unfold offered
        split <;> rfl
      · intro hle
        unfold offered
        split
        · next hlt => simpa using hlt
        · exact hle
    · exact h.refl s
  · exact h.refl s

theorem endTxn (o : TxnOutcome) : R s (endTxn p o s) := by
  have hcleared : R s (clearTxn p o s) :=
    h.trans (h.quiet s { (releaseClaims p s) with
      sb := entriesAfter p o s.sb, commitQueue := s.commitQueue.filter (fun q => decide (q ≠ p)) } rfl)
      (h.txn _ p Txn.empty Bool.noConfusion)
  have hended (number : Option Word) (count : Nat) : R s (raiseOutcome p o number count (clearTxn p o s)) :=
    h.trans hcleared (h.raised _ (by decide) ..)
  by_cases haccepted : acceptedState (s.txns.get p).state = true
  · rw [endTxn_of_accepted p o s haccepted]
    exact h.trans (hended ..) (h.offerOutcome ..)
  · rw [endTxn_of_not_accepted p o s haccepted]
    exact hended ..

theorem endCurrent (o : TxnOutcome) : R s (endCurrent o s) := by
  unfold Machine.endCurrent
  split
  · exact h.endTxn ..
  · exact h.refl s
  · exact h.refl s

theorem endLogging : R s (endLogging s) := h.trans (h.endCurrent ..) (h.endEngine ..)

theorem beginRestoring : R s (beginRestoring s) := h.trans (h.setEngine ..) (h.placeWord ..)

theorem settleStop : R s (settleStop s) := by
  unfold Machine.settleStop
  split
  · split
    · exact h.beginRestoring s
    · exact h.endLogging s
  · exact h.endLogging s

theorem stopEngine (c : StopCause) : R s (stopEngine c s) := by
  unfold Machine.stopEngine
  dsimp only
  split
  · exact h.setEngine ..
  split
  · exact h.trans (h.setEngine s _) (h.setEngineRequest ..)
  · exact h.trans (h.trans (h.setEngine s _) (h.setEngineRequest ..)) (h.settleStop _)

theorem engineTake : R s (engineTake s) := by
  unfold Machine.engineTake
  split
  · next q rest _ _ =>
    have htaken : R s ({ s with commitQueue := rest }.setTxn q (takenTxn s.engine.nextNumber (s.txns.get q))) :=
      h.trans (h.quiet s { s with commitQueue := rest } rfl) (h.txn _ q _ Bool.noConfusion)
    exact h.trans (h.trans htaken (h.setEngine ..)) (h.placeWord ..)
  · exact h.refl s

theorem endQueued (o : TxnOutcome) : R s (endQueued o s) := h.foldl s (fun t q => h.endTxn q t o) s.commitQueue

theorem enterFaulted (phase : BitVec 4) (x : Addr) : R s (enterFaulted phase x s) :=
  h.trans (h.trans (h.endEngine ..) (h.raised _ (by decide) ..)) (h.endQueued ..)

/-- A transaction's state replaced by one that does not stage. -/
theorem setTxnState {t : TxnState} (ht : stages t = false) : R s (setTxnState p t s) :=
  h.txn s p _ fun hstages => Bool.noConfusion (ht.symm.trans hstages)

theorem commitPoint : R s (commitPoint s) := by
  unfold Machine.commitPoint
  split
  · exact h.trans (h.trans (h.setEngine s _) (h.setTxnState _ _ rfl)) (h.placeWord ..)
  · exact h.refl s
  · exact h.refl s

theorem beginClearing : R s (beginClearing s) := by
  unfold Machine.beginClearing
  split
  · exact h.trans (h.trans (h.setEngine s _) (h.setTxnState _ _ rfl)) (h.placeWord ..)
  · exact h.trans (h.setEngine s _) (h.placeWord ..)
  · exact h.refl s

theorem commitDone : R s (commitDone p s) :=
  h.trans (h.trans (h.endTxn p s .committed) (h.setEngine ..)) (h.endEngine ..)

theorem advanceNumber (w : WordInHand) : R s (advanceNumber w s) := by
  unfold Machine.advanceNumber
  split
  · exact h.setEngine ..
  · exact h.refl s

theorem retryWord (w : WordInHand) : R s (retryWord w s) := h.quiet _ _ rfl

theorem joinLoaded : R s (joinLoaded s) := by
  unfold Machine.joinLoaded
  dsimp only
  split
  · exact h.setStage ..
  · exact h.refl s

theorem reportEarly : R s (reportEarly p s) := by
  unfold Machine.reportEarly
  split
  · exact h.refl s
  · exact h.raised _ (by decide) ..

end Closed

/-! ### The rise of READY -/

section Rise

variable (s : State)

theorem reportEarly_told (p : Port) : reportEarly p s = { s with
    raised := s.raised ++ if (s.ports.get p).early = 0#16 then []
      else s.told .earlyAccess (.port p) none 0#16 (s.ports.get p).early } := by
  unfold reportEarly
  split
  · rw [List.append_nil]
  · exact raise_told ..

theorem fenceAtReady_told : fenceAtReady s = { s with
    fence := if s.pwrgood then s.fence else .fenced,
    raised := s.raised ++ if s.pwrgood then [] else s.told .fenceEntered .part none 0#16 1#16 } := by
  unfold fenceAtReady
  split
  · rw [List.append_nil]
  · exact raise_told ..

end Rise

/-- Settles O19: READY rises with STARTED; what each later event adds depends on fields that the earlier ones leave as
they were. -/
theorem readyRiseReports : Obligations.ReadyRiseReports := by
  intro s
  unfold readyRise
  dsimp only
  rw [fenceAtReady_told, reportEarly_told, reportEarly_told, raise_told]
  rfl

theorem readyRise_stage (s : State) : (readyRise s).stage = .operating := by rw [readyRiseReports s]

theorem raise_unless (c : Bool) (n : EventName) (who : Concerned) (w : Option (Fin 16)) (hi lo : Word) (s : State) :
    (if c then s else raise n who w hi lo s) =
      { s with raised := s.raised ++ if c then [] else s.told n who w hi lo } := by
  cases c
  · exact raise_told ..
  · exact congrArg (fun ns => { s with raised := ns }) (List.append_nil _).symm

/-- The stage and the fence can rise first: the events that follow depend on neither. -/
theorem readyRise_eq_raises {s u v : State}
    (hu : u = { s with stage := .operating, fence := if s.pwrgood then s.fence else .fenced })
    (hv : v = reportEarly .b (reportEarly .a
      (raise .started .part none (startedDetail s.profileStatus) (recoveryCode s.recovery.result) u))) :
    readyRise s = if s.pwrgood then v else raise .fenceEntered .part none 0#16 1#16 v := by
  rw [raise_unless, hv, hu, readyRiseReports s, reportEarly_told, reportEarly_told, raise_told]
  rfl

/-! ### Recovery and the engine's accesses -/

namespace RiseClosed

variable {R : State → State → Prop} (h : RiseClosed R) (s : State)

include h

theorem readyRise : R s (readyRise s) := by
  have hstarted := h.trans (h.rises s) (h.raised _ (name := .started) (by decide) .part none
    (startedDetail s.profileStatus) (recoveryCode s.recovery.result))
  obtain ⟨v, hreported, heq⟩ :
      ∃ v, R s v ∧ Machine.readyRise s = if s.pwrgood then v else raise .fenceEntered .part none 0#16 1#16 v :=
    ⟨_, h.trans (h.trans hstarted (h.reportEarly .a _)) (h.reportEarly .b _), readyRise_eq_raises rfl rfl⟩
  rw [heq]
  split
  · exact hreported
  · exact h.trans hreported (h.raised _ (by decide) ..)

theorem setPhase (ph : RecoveryPhase) : R s (setPhase ph s) := h.recovery ..

theorem endRecovery (e : EngineState) (r : RecoveryResult) : R s (endRecovery e r s) :=
  h.trans (h.trans (h.recovery s { s.recovery with phase := .none, result := r }) (h.setEngine _ (recoveredEngine s)))
    (h.endEngine ..)

theorem findDamaged (reason : Word) : R s (findDamaged reason s) :=
  h.trans (h.setPhase s .none)
    (h.trans (h.trans (h.raised _ (by decide) ..) (h.setEngine ..)) (h.placeWord ..))

theorem beginPass (ph : RecoveryPhase) : R s (beginPass ph s) := h.trans (h.setPhase s ph) (h.setEngineRequest ..)

theorem checkLogged : R s (checkLogged s) := by
  unfold Machine.checkLogged
  split
  · exact h.findDamaged ..
  split
  · exact h.findDamaged ..
  · exact h.beginPass ..

theorem classifyHeader : R s (classifyHeader s) := by
  unfold Machine.classifyHeader
  split
  · exact h.checkLogged s
  split
  · exact h.trans (h.endRecovery ..) (h.readyRise _)
  · exact h.trans (h.setPhase s .none) (h.trans (h.setEngine ..) (h.placeWord ..))

theorem takeHeaderWord (w : Word) : R { s with inFlight := none } (takeHeaderWord w s) := by
  refine h.trans (h.recovery { s with inFlight := none }
    { s.recovery with header := s.recovery.header ++ [w] }) ?_
  unfold Machine.takeHeaderWord
  dsimp only
  split
  · exact h.setEngineRequest ..
  · exact h.classifyHeader _

theorem takeCheckWord (w : Word) : R { s with inFlight := none } (takeCheckWord w s) := by
  refine h.trans (h.recovery { s with inFlight := none }
    { s.recovery with slots := s.recovery.slots ++ [w] }) ?_
  unfold Machine.takeCheckWord
  dsimp only
  split
  · exact h.setEngineRequest ..
  split
  · exact h.trans (h.setEngine ..) (h.beginPass ..)
  · exact h.findDamaged ..

theorem takeLoadWord (w : Word) : R { s with inFlight := none } (takeLoadWord w s) := by
  refine h.trans (h.recovery { s with inFlight := none }
    { s.recovery with loaded := s.recovery.loaded ++ [w] }) (h.trans (h.joinLoaded _) ?_)
  unfold Machine.takeLoadWord
  dsimp only
  split
  · exact h.setEngineRequest ..
  · exact h.trans (h.setPhase ..) (h.trans (h.setEngine ..) (h.placeWord ..))

theorem formatDone : R s (formatDone s) :=
  h.trans (h.trans (h.endRecovery ..) (h.raised _ (by decide) ..)) (h.readyRise _)

theorem damagedDone : R s (damagedDone s) := h.trans (h.endRecovery ..) (h.readyRise _)

theorem replayDone : R s (replayDone s) :=
  h.trans (h.trans (h.setStage s _) (h.trans (h.endRecovery ..) (h.raised _ (by decide) ..))) (h.readyRise _)

theorem replayFault (phase : BitVec 4) (x : Addr) : R s (replayFault phase x s) :=
  h.trans (h.trans (h.endRecovery ..) (h.raised _ (by decide) ..)) (h.readyRise _)

theorem wordDone (role : WordRole) : R s (wordDone role s) := by
  cases role with
  | slot i j =>
    unfold Machine.wordDone
    dsimp only
    split
    · exact h.placeWord ..
    split
    · exact h.placeWord ..
    · exact h.placeWord ..
  | header k =>
    unfold Machine.wordDone
    dsimp only
    split
    · exact h.placeWord ..
    · exact h.placeWord ..
  | logged => exact h.commitPoint s
  | home k =>
    unfold Machine.wordDone
    dsimp only
    split
    · exact h.placeWord ..
    · exact h.beginClearing s
  | clear =>
    unfold Machine.wordDone
    dsimp only
    split
    · exact h.commitDone ..
    · exact h.replayDone s
    · exact h.refl s
  | restore => exact h.endLogging s
  | format k =>
    unfold Machine.wordDone
    dsimp only
    split
    · exact h.placeWord ..
    · exact h.placeWord ..
  | formatClear => exact h.formatDone s
  | damagedClear => exact h.damagedDone s

theorem wordFailed (role : WordRole) (x : Addr) : R s (wordFailed role x s) := by
  cases role with
  | slot i j => exact h.beginRestoring s
  | header k => exact h.beginRestoring s
  | logged => exact h.beginRestoring s
  | home k =>
    unfold Machine.wordFailed
    dsimp only
    split
    · exact h.trans (h.endTxn ..) (h.enterFaulted ..)
    · exact h.replayFault ..
    · exact h.refl s
  | clear =>
    unfold Machine.wordFailed
    dsimp only
    split
    · exact h.trans (h.endTxn ..) (h.enterFaulted ..)
    · exact h.replayFault ..
    · exact h.refl s
  | restore => exact h.trans (h.endCurrent ..) (h.enterFaulted ..)
  | format k => exact h.replayFault ..
  | formatClear => exact h.replayFault ..
  | damagedClear => exact h.replayFault ..

theorem afterWrite (w : WordInHand) : R s (afterWrite w s) := by
  unfold Machine.afterWrite
  split
  · exact h.settleStop s
  split
  · exact h.setEngineRequest ..
  · exact h.wordDone ..

theorem afterReadBack (w : WordInHand) (v : Word) : R s (afterReadBack w v s) := by
  unfold Machine.afterReadBack
  split
  · exact h.settleStop s
  split
  · exact h.wordDone ..
  split
  · exact h.retryWord ..
  · exact h.wordFailed ..

end RiseClosed

end Sys2Proof.Machine

/-! SUPPORT. What the operations of chapters 2 to 6 keep of the part, said once: they touch the recognizers, the
sessions, the leases, the transactions, the stage buffer and the engine with its request, and raise events for the
readers in force; all else stays as it was. -/

namespace Sys2Proof.Machine

/-! ### Operating -/

/-- `t` has the events that wait in `s`, oldest first, and behind them only events raised for the readers of `s`. -/
def Tells (s t : State) : Prop :=
  ∃ ns, t.raised = s.raised ++ ns ∧
    ∀ n ∈ ns, n.audience = s.audience n.who ∧ n.audience.some = true ∧ n.name ≠ .overflow

/-- `t` follows `s` by operations of chapters 2 to 6. -/
structure Operates (s t : State) : Prop where
  frame : t = { s with
    sqr := t.sqr, sessions := t.sessions, leases := t.leases, txns := t.txns, claims := t.claims,
    commitQueue := t.commitQueue, sb := t.sb, engine := t.engine,
    waiting := { s.waiting with engine := t.waiting.engine }, raised := t.raised }
  tells : Tells s t

namespace Operates

variable {s t u : State}

theorem of_quiet (h : t = { s with
    sqr := t.sqr, sessions := t.sessions, leases := t.leases, txns := t.txns, claims := t.claims,
    commitQueue := t.commitQueue, sb := t.sb, engine := t.engine,
    waiting := { s.waiting with engine := t.waiting.engine } }) : Operates s t := by
  have hraised : t.raised = s.raised := (congrArg State.raised h :)
  exact ⟨h.trans (by rw [hraised]), [], by rw [hraised, List.append_nil], by simp⟩

theorem refl (s : State) : Operates s s := of_quiet rfl

theorem supply (h : Operates s t) : t.supply = s.supply := (congrArg State.supply h.frame :)
theorem resetn (h : Operates s t) : t.resetn = s.resetn := (congrArg State.resetn h.frame :)
theorem pwrgood (h : Operates s t) : t.pwrgood = s.pwrgood := (congrArg State.pwrgood h.frame :)
theorem stage (h : Operates s t) : t.stage = s.stage := (congrArg State.stage h.frame :)
theorem profile (h : Operates s t) : t.profile = s.profile := (congrArg State.profile h.frame :)
theorem recovery (h : Operates s t) : t.recovery = s.recovery := (congrArg State.recovery h.frame :)
theorem ports (h : Operates s t) : t.ports = s.ports := (congrArg State.ports h.frame :)
theorem inFlight (h : Operates s t) : t.inFlight = s.inFlight := (congrArg State.inFlight h.frame :)
theorem fence (h : Operates s t) : t.fence = s.fence := (congrArg State.fence h.frame :)
theorem absorbed (h : Operates s t) : t.absorbed = s.absorbed := (congrArg State.absorbed h.frame :)
theorem records (h : Operates s t) : t.records = s.records := (congrArg State.records h.frame :)
theorem memory (h : Operates s t) : t.memory = s.memory := (congrArg State.memory h.frame :)
theorem pending (h : Operates s t) : t.pending = s.pending := (congrArg State.pending h.frame :)
theorem client (h : Operates s t) : t.waiting.client = s.waiting.client :=
  (congrArg (fun v => v.waiting.client) h.frame :)

theorem active (h : Operates s t) : t.active = s.active := congrArg (·.getD noProfile) h.profile

theorem audience (h : Operates s t) (who : Concerned) : t.audience who = s.audience who := by
  simp only [State.audience, State.reader, h.active]

theorem trans (h : Operates s t) (k : Operates t u) : Operates s u := by
  refine ⟨k.frame.trans (by rw [h.frame]), ?_⟩
  obtain ⟨ns, hns, hall⟩ := h.tells
  obtain ⟨ms, hms, kall⟩ := k.tells
  refine ⟨ns ++ ms, by rw [hms, hns, List.append_assoc], fun n hn => ?_⟩
  obtain hn | hn := List.mem_append.mp hn
  · exact hall n hn
  · rw [← h.audience]
    exact kall n hn

end Operates

/-! ### Single updates -/

section Updates

variable (s : State)

theorem setSqr_operates (p : Port) (q : Sqr) : Operates s (s.setSqr p q) := .of_quiet rfl
theorem setSession_operates (p : Port) (x : Option Session) : Operates s (s.setSession p x) := .of_quiet rfl
theorem setLease_operates (w : Fin 16) (l : Lease) : Operates s (s.setLease w l) := .of_quiet rfl
theorem setTxn_operates (p : Port) (t : Txn) : Operates s (s.setTxn p t) := .of_quiet rfl
theorem joinStaged_operates (p : Port) (w : Fin 16) (x : Addr) (d : Word) : Operates s (joinStaged p w x d s) :=
  .of_quiet rfl

theorem raise_operates {name : EventName} (hname : name ≠ .overflow) (who : Concerned) (w : Option (Fin 16))
    (hi lo : Word) : Operates s (raise name who w hi lo s) := by
  rw [raise_told]
  refine ⟨rfl, s.told name who w hi lo, rfl, fun n hn => ?_⟩
  rw [State.told] at hn
  split at hn
  · next hsome =>
    rw [List.mem_singleton.mp hn]
    exact ⟨rfl, hsome, hname⟩
  · simp at hn

theorem operates_closed : Closed Operates where
  refl := .refl
  trans := .trans
  raised s _ hname := raise_operates s hname
  quiet s t h := .of_quiet (h.trans (by rw [h]))
  txn s p t _ := setTxn_operates s p t
  session s p _ y _ _ _ := setSession_operates s p (some y)

end Updates

/-! ### Sessions and leases -/

section Leases

variable (p : Port) (s : State)

theorem pushWords_operates (ws : List Word) : Operates s (pushWords p ws s) := by
  unfold pushWords
  split
  · exact setSession_operates ..
  · exact .refl s

theorem respond_operates (v : Byte) (r : Result) (more : List Word) : Operates s (respond p v r more s) :=
  pushWords_operates ..

theorem restartIdle_operates : Operates s (restartIdle p s) := by
  unfold restartIdle
  split
  · exact setSession_operates ..
  · exact .refl s

theorem setAwaited_operates : Operates s (setAwaited p s) := by
  unfold setAwaited
  split
  · exact setSession_operates ..
  · exact .refl s

theorem openLeaseFor_operates (k : Fin 4) (w : Fin 16) : Operates s (openLeaseFor p k w s) :=
  (setLease_operates ..).trans (raise_operates _ (by decide) ..)

theorem endLease_operates (w : Fin 16) (c : LeaseCause) : Operates s (endLease w c s) := by
  unfold endLease
  split
  · exact (setLease_operates ..).trans (raise_operates _ (by decide) ..)
  · exact .refl s
  · exact .refl s

theorem spendUnit_operates (w : Fin 16) : Operates s (spendUnit p w s) := by
  unfold spendUnit
  split
  · split
    · dsimp only
      split
      · exact (setLease_operates ..).trans (endLease_operates ..)
      · exact setLease_operates ..
    · exact .refl s
  · exact .refl s
  · exact .refl s

theorem spendAt_operates (x : Addr) : Operates s (spendAt p x s) := by
  unfold spendAt
  split
  · exact spendUnit_operates ..
  · exact .refl s

theorem endLeaseOf_operates (c : LeaseCause) (w : Fin 16) : Operates s (endLeaseOf p c s w) := by
  unfold endLeaseOf
  split
  · exact endLease_operates ..
  · exact .refl s

theorem endLeasesOf_operates (c : LeaseCause) : Operates s (endLeasesOf p c s) :=
  operates_closed.foldl s (fun s w => endLeaseOf_operates p s c w) allWindows

end Leases

/-! ### Staging -/

section Staging

variable (p : Port) (s : State)

theorem overflowTxn_operates (w : Fin 16) (c : Word) : Operates s (overflowTxn p w c s) :=
  (setTxn_operates s p _).trans (raise_operates _ (by decide) ..)

theorem raiseAccess_operates {name : EventName} (hname : name ≠ .overflow) (w : Option (Fin 16)) (x : Addr) :
    Operates s (raiseAccess name p w x s) := raise_operates s hname ..

theorem stageWrite_operates (w : Fin 16) (x : Addr) (d : Word) : Operates s (stageWrite p w x d s) := by
  unfold stageWrite
  split
  · exact .refl s
  split
  · exact raiseAccess_operates p s (by decide) ..
  split
  · exact (operates_closed.setStage s _).trans (spendUnit_operates ..)
  split
  · exact overflowTxn_operates ..
  split
  · exact overflowTxn_operates ..
  · exact (joinStaged_operates ..).trans (spendUnit_operates ..)

end Staging

/-! ### Recognizers and the end of a session -/

section Recognizers

variable (p : Port) (s : State)

theorem enterLockout_operates (c : Word) : Operates s (enterLockout p c s) :=
  (setSqr_operates ..).trans (raise_operates _ (by decide) ..)

theorem countBreak_operates (c : Word) (q : Sqr) : Operates s (countBreak p c q s) := by
  unfold countBreak
  dsimp only
  split
  · exact (setSqr_operates s p _).trans (enterLockout_operates ..)
  · exact setSqr_operates ..

theorem completeKey_operates (k : Fin 4) : Operates s (completeKey p k s) :=
  ((setSqr_operates s p _).trans (setSession_operates ..)).trans (raise_operates _ (by decide) ..)

theorem takeWrite_operates (x : Addr) (d : Word) : Operates s (takeWrite p x d s) := by
  unfold takeWrite
  dsimp only
  split
  · exact completeKey_operates ..
  · split
    · exact countBreak_operates ..
    · exact setSqr_operates ..

theorem observe_operates (x : Addr) (d : Word) : Operates s (observe p x d s) := by
  unfold observe
  split
  · exact takeWrite_operates ..
  · exact .refl s

theorem releaseTxn_operates : Operates s (releaseTxn p s) := by
  unfold releaseTxn
  split
  · exact operates_closed.endTxn ..
  · exact setTxn_operates ..

theorem closeSession_operates (c : SessionCause) : Operates s (closeSession p c s) :=
  (((endLeasesOf_operates p s _).trans (releaseTxn_operates p _)).trans
    ((setSession_operates ..).trans (setSqr_operates ..))).trans (raise_operates _ (by decide) ..)

theorem endSession_operates (c : SessionCause) : Operates s (endSession p c s) := by
  unfold endSession
  split
  · exact closeSession_operates ..
  · exact .refl s

theorem fenceSqr_operates : Operates s (fenceSqr p s) := by
  unfold fenceSqr
  split
  · exact setSqr_operates ..
  · exact .refl s

theorem fenceEngine_operates : Operates s (fenceEngine s) := by
  unfold fenceEngine
  split
  · exact operates_closed.stopEngine ..
  · exact .refl s

end Recognizers

/-! ### Verbs -/

section Verbs

variable (p : Port) (x : Session) (operand : Byte) (s : State)

theorem scOpen_operates : Operates s (scOpen p x operand s) := by
  unfold scOpen
  split
  · exact respond_operates ..
  · dsimp only
    split
    · exact (respond_operates ..).trans (openLeaseFor_operates ..)
    · exact respond_operates ..

theorem scClose_operates : Operates s (scClose p operand s) := by
  unfold scClose
  split
  · exact respond_operates ..
  · split
    · exact (respond_operates ..).trans (endLease_operates ..)
    · exact respond_operates ..

theorem scBegin_operates : Operates s (scBegin p x s) := by
  unfold scBegin
  dsimp only
  split
  · exact ((respond_operates p s _ _ _).trans (setTxn_operates ..)).trans (raise_operates _ (by decide) ..)
  · exact respond_operates ..

theorem takeWhenTwo_operates : Operates s (takeWhenTwo s) := by
  unfold takeWhenTwo
  split
  · exact operates_closed.engineTake s
  · exact .refl s

theorem queueTxn_operates : Operates s (queueTxn p s) := .of_quiet rfl

theorem scCommit_operates : Operates s (scCommit p x s) := by
  unfold scCommit
  dsimp only
  split
  · exact (respond_operates ..).trans (operates_closed.endTxn ..)
  split
  · exact (respond_operates p s _ _ _).trans
      (((queueTxn_operates p _).trans (setAwaited_operates p _)).trans (takeWhenTwo_operates _))
  · exact respond_operates ..

theorem scAbort_operates : Operates s (scAbort p x s) := by
  unfold scAbort
  dsimp only
  split
  · split
    · exact (respond_operates ..).trans (operates_closed.stopEngine ..)
    · exact (respond_operates ..).trans (operates_closed.endTxn ..)
  · exact respond_operates ..

theorem overrunCommand_operates (command : Word) : Operates s (overrunCommand p x command s) :=
  (setSession_operates ..).trans (raise_operates _ (by decide) ..)

/-- A command word operates, but for a record that NEXT_EVENT takes and a mask that ALERT_MASK sets before the
answer is pushed. -/
theorem performCommand_operates (command : Word) :
    Operates s (performCommand p x command s) ∨
    Operates { s with records := takeRecord p s.records } (performCommand p x command s) ∨
    Operates (s.setAlertMask p (operandByte command)) (performCommand p x command s) := by
  have hnext : Operates s (scNextEvent p x s) ∨
      Operates { s with records := takeRecord p s.records } (scNextEvent p x s) := by
    unfold scNextEvent
    split
    · exact .inl (respond_operates ..)
    · split
      · exact .inl (respond_operates ..)
      · exact .inr (respond_operates ..)
  unfold performCommand
  split
  · exact .inl (overrunCommand_operates ..)
  unfold performVerb
  dsimp only
  split
  · exact .inl (scOpen_operates ..)
  · exact .inl (scClose_operates ..)
  · exact .inl (scBegin_operates ..)
  · exact .inl (scCommit_operates ..)
  · exact .inl (scAbort_operates ..)
  · exact .inl (respond_operates ..)
  · exact hnext.imp_right .inl
  · exact .inr (.inr (respond_operates ..))
  · exact .inl (endSession_operates ..)
  · exact .inl (respond_operates ..)

end Verbs

end Sys2Proof.Machine

/-! SUPPORT. What recovery and the completions of the engine's words keep of the part, and what one command can do,
said once as a list of effects. -/

namespace Sys2Proof.Machine

/-! ### Advancing -/

/-- `t` follows `s` by operations of chapters 2 to 6, steps of recovery and the rise of READY. -/
structure Advances (s t : State) : Prop where
  frame : t = { s with
    stage := t.stage, recovery := t.recovery, fence := t.fence,
    sqr := t.sqr, sessions := t.sessions, leases := t.leases, txns := t.txns, claims := t.claims,
    commitQueue := t.commitQueue, sb := t.sb, engine := t.engine,
    waiting := { s.waiting with engine := t.waiting.engine }, raised := t.raised }
  tells : Tells s t
  stage : t.stage = s.stage ∨ t.stage = .operating

theorem Operates.advances {s t : State} (h : Operates s t) : Advances s t where
  frame := h.frame.trans (by rw [h.stage, h.recovery, h.fence])
  tells := h.tells
  stage := .inl h.stage

namespace Advances

variable {s t u : State}

theorem of_quiet (h : t = { s with
    stage := t.stage, recovery := t.recovery, fence := t.fence,
    sqr := t.sqr, sessions := t.sessions, leases := t.leases, txns := t.txns, claims := t.claims,
    commitQueue := t.commitQueue, sb := t.sb, engine := t.engine,
    waiting := { s.waiting with engine := t.waiting.engine } })
    (hstage : t.stage = s.stage ∨ t.stage = .operating) : Advances s t := by
  have hraised : t.raised = s.raised := (congrArg State.raised h :)
  exact ⟨h.trans (by rw [hraised]), ⟨[], by rw [hraised, List.append_nil], by simp⟩, hstage⟩

theorem refl (s : State) : Advances s s := (Operates.refl s).advances

theorem supply (h : Advances s t) : t.supply = s.supply := (congrArg State.supply h.frame :)
theorem resetn (h : Advances s t) : t.resetn = s.resetn := (congrArg State.resetn h.frame :)
theorem profile (h : Advances s t) : t.profile = s.profile := (congrArg State.profile h.frame :)
theorem ports (h : Advances s t) : t.ports = s.ports := (congrArg State.ports h.frame :)
theorem inFlight (h : Advances s t) : t.inFlight = s.inFlight := (congrArg State.inFlight h.frame :)
theorem records (h : Advances s t) : t.records = s.records := (congrArg State.records h.frame :)
theorem memory (h : Advances s t) : t.memory = s.memory := (congrArg State.memory h.frame :)
theorem pending (h : Advances s t) : t.pending = s.pending := (congrArg State.pending h.frame :)
theorem client (h : Advances s t) : t.waiting.client = s.waiting.client :=
  (congrArg (fun v => v.waiting.client) h.frame :)

theorem active (h : Advances s t) : t.active = s.active := congrArg (·.getD noProfile) h.profile

theorem audience (h : Advances s t) (who : Concerned) : t.audience who = s.audience who := by
  simp only [State.audience, State.reader, h.active]

theorem trans (h : Advances s t) (k : Advances t u) : Advances s u := by
  refine ⟨k.frame.trans (by rw [h.frame]), ?_, ?_⟩
  · obtain ⟨ns, hns, hall⟩ := h.tells
    obtain ⟨ms, hms, kall⟩ := k.tells
    refine ⟨ns ++ ms, by rw [hms, hns, List.append_assoc], fun n hn => ?_⟩
    obtain hn | hn := List.mem_append.mp hn
    · exact hall n hn
    · rw [← h.audience]
      exact kall n hn
  · obtain hs | hs := k.stage
    · rw [hs]
      exact h.stage
    · exact .inr hs

end Advances

theorem advances_closed : RiseClosed Advances where
  refl := .refl
  trans := .trans
  raised s _ hname who w hi lo := (raise_operates s hname who w hi lo).advances
  quiet s t h := (operates_closed.quiet s t h).advances
  txn s p t _ := (setTxn_operates s p t).advances
  session s p _ y _ _ _ := (setSession_operates s p (some y)).advances
  recovery _ _ := .of_quiet rfl (.inl rfl)
  rises _ := .of_quiet rfl (.inr rfl)

/-! ### What one command can do -/

theorem engineRead_eq_some {s : State} {x : Addr} :
    s.engineRead = some x ↔ s.inFlight = some { holder := .engine, kind := .read, addr := x } := by
  refine ⟨fun h => ?_, fun h => by simp only [State.engineRead, h]⟩
  unfold State.engineRead at h
  split at h
  · next y hy => rw [hy, Option.some.inj h]
  · cases h

theorem engineWrite_eq_some {s : State} {w : WordInHand} {x : Addr} {d : Word} :
    s.engineWrite = some (w, x, d) ↔
      s.inFlight = some { holder := .engine, kind := .write d, addr := x } ∧ s.engine.word = some w := by
  refine ⟨fun h => ?_, fun ⟨hi, hw⟩ => by simp only [State.engineWrite, hi, hw]⟩
  unfold State.engineWrite at h
  split at h
  · next hi hw =>
    obtain ⟨rfl, rfl, rfl⟩ := by simpa using h
    exact ⟨hi, hw⟩
  · cases h

theorem engineReadBack_eq_some {s : State} {w : WordInHand} {x : Addr} :
    s.engineReadBack = some (w, x) ↔
      s.inFlight = some { holder := .engine, kind := .read, addr := x } ∧ s.engine.word = some w := by
  refine ⟨fun h => ?_, fun ⟨hi, hw⟩ => by simp only [State.engineReadBack, engineRead_eq_some.mpr hi, hw]⟩
  unfold State.engineReadBack at h
  split at h
  · next hi hw =>
    obtain ⟨rfl, rfl⟩ := by simpa using h
    exact ⟨engineRead_eq_some.mp hi, hw⟩
  · cases h

/-- What one command can do to a state, with the conditions under which it does it. -/
inductive Effect (s : State) : State → Prop
  /-- the command's event cannot occur (log 9) -/
  | same : Effect s s
  | startsUp (pbyp pwrgood : Bool) :
      Effect s (startUp { s with supply := true, resetn := true, pwrgood := pwrgood, pbyp := pbyp })
  | heldInReset (pbyp pwrgood : Bool) :
      Effect s (initialise { s with supply := true, resetn := false, pwrgood := pwrgood, pbyp := pbyp })
  | resetnMoves (level : Bool) (supply : s.supply = false) : Effect s { s with resetn := level }
  | resetnFalls (left : Word → Word → Word) :
      Effect s { endActivity (finishWrite left s) with resetn := false }
  | supplyLost (left : Word → Word → Word) :
      Effect s { endActivity (finishWrite left s) with supply := false }
  | pwrgoodMoves (level : Bool) (unheard : s.stage = .operating → (s.fence = .fenced ↔ level = false)) :
      Effect s { s with pwrgood := level }
  | fenceEntered (ready : s.stage = .operating) (opened : s.fence = .opened) :
      Effect s (enterFence { s with pwrgood := false })
  | fenceLeft (fenced : s.fence = .fenced) : Effect s (leaveFence { s with pwrgood := true })
  | waitEnds (waits : s.stage = .waitPwrgood) : Effect s (beginProfileRead { s with pwrgood := true })
  | profileWord (w : Word) (x : Addr) (stage : s.stage = .profileRead)
      (reads : s.inFlight = some { holder := .engine, kind := .read, addr := x }) : Effect s (takeProfileWord w s)
  | headerWord (w : Word) (x : Addr) (phase : s.recovery.phase = .header)
      (reads : s.inFlight = some { holder := .engine, kind := .read, addr := x }) : Effect s (takeHeaderWord w s)
  | checkWord (w : Word) (x : Addr) (phase : s.recovery.phase = .check)
      (reads : s.inFlight = some { holder := .engine, kind := .read, addr := x }) : Effect s (takeCheckWord w s)
  | loadWord (w : Word) (x : Addr) (phase : s.recovery.phase = .load)
      (reads : s.inFlight = some { holder := .engine, kind := .read, addr := x }) : Effect s (takeLoadWord w s)
  | granted (r : Requester) (q : Request) (free : s.inFlight = none) (next : s.nextGrant = some (r, q)) :
      Effect s (useGrant r q (grantTo r s))
  | readAnswered (p : Port) (x : Addr) (w : Word)
      (reads : s.inFlight = some { holder := .client p, kind := .read, addr := x }) :
      Effect s (completeCycle p (some w) (s.setInFlight none))
  | writeDone (p : Port) (x : Addr) (d w : Word)
      (writes : s.inFlight = some { holder := .client p, kind := .write d, addr := x }) :
      Effect s (settleWrite p x d (spendAt p x ((s.writeWord x w).setInFlight none)))
  | engineWrote (w : WordInHand) (x : Addr) (d v : Word)
      (writes : s.inFlight = some { holder := .engine, kind := .write d, addr := x })
      (word : s.engine.word = some w) :
      Effect s (afterWrite w (advanceNumber w ((s.writeWord x v).setInFlight none)))
  | engineVerified (w : WordInHand) (x : Addr) (v : Word)
      (reads : s.inFlight = some { holder := .engine, kind := .read, addr := x })
      (word : s.engine.word = some w) : Effect s (afterReadBack w v (s.setInFlight none))
  | engineTakes (ready : s.stage = .operating) : Effect s (engineTake s)
  | cycleTaken (p : Port) (kind : AccessKind) (x : Addr) (gone : Bool) (free : s.canTake p) :
      Effect s (settleCycle p kind x (s.setPort p (heldPort kind x gone (s.ports.get p))))
  | stepTimerEnds (p : Port) (watching : (s.sqr.get p).state = .watching)
      (runs : (s.sqr.get p).stepTimer ≠ .stopped) :
      Effect s (if partWay (s.sqr.get p) then countBreak p 1#16 (clearedSqr (s.sqr.get p)) s
        else s.setSqr p (clearedSqr (s.sqr.get p)))
  | lockoutEnds (p : Port) (locked : (s.sqr.get p).state = .lockedOut) :
      Effect s (raise .keyLockoutEnd (.port p) none 0#16 0#16 (s.setSqr p Sqr.fresh))
  | idleTimerEnds (p : Port) : Effect s (endSession p .idle s)
  | lifetimeEnds (w : Fin 16) : Effect s (endLease w .lifetime s)
  | holdoffEnds (w : Fin 16) (ms : Nat) (holdoff : s.lease w = .holdoff ms) : Effect s (s.setLease w .closed)
  | cycleAbandoned (p : Port) (held : (s.ports.get p).state = .held) :
      Effect s (s.setPort p (abandonedPort (s.ports.get p)))
  | endingExit (p : Port) (ending : (s.ports.get p).state = .ending) :
      Effect s (s.setPort p { s.ports.get p with state := .idle, cycle := none })
  | arrives (n : Notice) (rest : List Notice) (front : s.raised = n :: rest) :
      Effect s (takeNotice n { s with raised := rest })

theorem Effect.of_eq {s t : State} (h : t = s) : Effect s t := h ▸ .same

theorem resetn_level_eq {s : State} {level : Bool} (h : s.resetn = level) : { s with resetn := level } = s := by
  rw [← h]

section Effects

variable (s : State)

theorem powerUp_effect (pbyp pwrgood resetn : Bool) :
    ∃ t, exec (.powerUp pbyp pwrgood resetn) s = .next t ∧ Effect s t := by
  refine ⟨_, rfl, ?_⟩
  split
  · cases resetn
    · exact .heldInReset pbyp pwrgood
    · exact .startsUp pbyp pwrgood
  · exact .same

theorem resetnMoves_effect (level : Bool) (h : ¬ (s.supply = true ∧ s.resetn = !level)) :
    Effect s { s with resetn := level } := by
  by_cases hs : s.supply = true
  · refine .of_eq (resetn_level_eq ?_)
    simpa [hs] using h
  · exact .resetnMoves level (by simpa using hs)

theorem resetnRise_effect (pbyp pwrgood : Bool) :
    ∃ t, exec (.resetnRise pbyp pwrgood) s = .next t ∧ Effect s t := by
  refine ⟨_, rfl, ?_⟩
  split
  · next h =>
    have hsupply : { s with resetn := true, pwrgood := pwrgood, pbyp := pbyp } =
        { s with supply := true, resetn := true, pwrgood := pwrgood, pbyp := pbyp } := by rw [h.1]
    rw [hsupply]
    exact .startsUp pbyp pwrgood
  · next h => exact resetnMoves_effect s true h

theorem resetnFall_effect (answer : MemoryAnswer) :
    ∃ t, exec (.resetnFall answer) s = .next t ∧ Effect s t := by
  refine ⟨_, rfl, ?_⟩
  split
  · exact .resetnFalls _
  · next h => exact resetnMoves_effect s false h

theorem supplyLoss_effect (landed : Bool) : ∃ t, exec (.supplyLoss landed) s = .next t ∧ Effect s t := by
  refine ⟨_, rfl, ?_⟩
  split
  · exact .supplyLost _
  · exact .same

theorem pwrgoodWaitEnd_effect : ∃ t, exec .pwrgoodWaitEnd s = .next t ∧ Effect s t := by
  refine ⟨_, rfl, ?_⟩
  split
  · next h => exact .waitEnds h
  · exact .same

theorem pwrgoodFall_effect : ∃ t, exec .pwrgoodFall s = .next t ∧ Effect s t := by
  refine ⟨_, rfl, ?_⟩
  split
  · next h => exact .fenceEntered (by simpa [State.ready] using h.1) h.2
  · next h =>
    refine .pwrgoodMoves false fun hstage => ?_
    cases hf : s.fence <;> simp_all [State.ready]

theorem pwrgoodRise_effect : ∃ t, exec .pwrgoodRise s = .next t ∧ Effect s t := by
  refine ⟨_, rfl, ?_⟩
  split
  · next h => exact .fenceLeft h
  · next h => exact .pwrgoodMoves true fun _ => by simp [h]

theorem pwrgoodChangeInStartUp_effect (level : Bool) :
    ∃ t, exec (.pwrgoodChangeInStartUp level) s = .next t ∧ Effect s t := by
  refine ⟨_, rfl, ?_⟩
  split
  · exact .same
  · next h => exact .pwrgoodMoves level fun hstage => absurd hstage (by simpa [State.ready] using h)

theorem profileWordRead_effect (answer : MemoryAnswer) :
    ∃ t, exec (.profileWordRead answer) s = .next t ∧ Effect s t := by
  refine ⟨_, rfl, ?_⟩
  split
  · next hstage hread => exact .profileWord _ _ hstage (engineRead_eq_some.mp hread)
  · exact .same

theorem journalHeaderRead_effect : ∃ t, exec .journalHeaderRead s = .next t ∧ Effect s t := by
  refine ⟨_, rfl, ?_⟩
  split
  · next hphase hread => exact .headerWord _ _ hphase (engineRead_eq_some.mp hread)
  · exact .same

theorem journalSlotCheckRead_effect : ∃ t, exec .journalSlotCheckRead s = .next t ∧ Effect s t := by
  refine ⟨_, rfl, ?_⟩
  split
  · next hphase hread => exact .checkWord _ _ hphase (engineRead_eq_some.mp hread)
  · exact .same

theorem replayLoadRead_effect : ∃ t, exec .replayLoadRead s = .next t ∧ Effect s t := by
  refine ⟨_, rfl, ?_⟩
  split
  · next hphase hread => exact .loadWord _ _ hphase (engineRead_eq_some.mp hread)
  · exact .same

theorem memoryPortGrant_effect : ∃ t, exec .memoryPortGrant s = .next t ∧ Effect s t := by
  refine ⟨_, rfl, ?_⟩
  split
  · next hfree hnext => exact .granted _ _ hfree hnext
  · exact .same

theorem forwardedReadComplete_effect (answer : MemoryAnswer) :
    ∃ t, exec (.forwardedReadComplete answer) s = .next t ∧ Effect s t := by
  refine ⟨_, rfl, ?_⟩
  split
  · next hread => exact .readAnswered _ _ _ hread
  · exact .same

theorem forwardedWriteComplete_effect (answer : MemoryAnswer) :
    ∃ t, exec (.forwardedWriteComplete answer) s = .next t ∧ Effect s t := by
  refine ⟨_, rfl, ?_⟩
  split
  · next hwrite => exact .writeDone _ _ _ _ hwrite
  · exact .same

theorem engineWriteComplete_effect (answer : MemoryAnswer) :
    ∃ t, exec (.engineWriteComplete answer) s = .next t ∧ Effect s t := by
  refine ⟨_, rfl, ?_⟩
  split
  · next hwrite =>
    obtain ⟨hflight, hword⟩ := engineWrite_eq_some.mp hwrite
    exact .engineWrote _ _ _ _ hflight hword
  · exact .same

theorem engineReadBackComplete_effect (answer : MemoryAnswer) :
    ∃ t, exec (.engineReadBackComplete answer) s = .next t ∧ Effect s t := by
  refine ⟨_, rfl, ?_⟩
  split
  · next hread =>
    obtain ⟨hflight, hword⟩ := engineReadBack_eq_some.mp hread
    exact .engineVerified _ _ _ hflight hword
  · exact .same

theorem engineTake_effect : ∃ t, exec .engineTake s = .next t ∧ Effect s t := by
  refine ⟨_, rfl, ?_⟩
  split
  · next h => exact .engineTakes (by simpa [State.ready] using h)
  · exact .same

theorem clientCycle_effect (p : Port) (kind : AccessKind) (x : Addr) (gone : Bool) :
    Effect s (clientCycle p kind x gone s) := by
  unfold clientCycle
  split
  · next h => exact .cycleTaken p kind x gone h
  · exact .same

theorem stepTimerExpiry_effect (p : Port) : ∃ t, exec (.stepTimerExpiry p) s = .next t ∧ Effect s t := by
  refine ⟨_, rfl, ?_⟩
  dsimp only
  split
  · next h => exact .stepTimerEnds p h.1 h.2
  · exact .same

theorem lockoutTimerExpiry_effect (p : Port) :
    ∃ t, exec (.lockoutTimerExpiry p) s = .next t ∧ Effect s t := by
  refine ⟨_, rfl, ?_⟩
  split
  · next h => exact .lockoutEnds p h.1
  · exact .same

theorem lifetimeTimerExpiry_effect (w : Fin 16) :
    ∃ t, exec (.lifetimeTimerExpiry w) s = .next t ∧ Effect s t := by
  refine ⟨_, rfl, ?_⟩
  split
  · split
    · exact .same
    · exact .lifetimeEnds w
  · exact .same
  · exact .same

theorem holdoffTimerExpiry_effect (w : Fin 16) :
    ∃ t, exec (.holdoffTimerExpiry w) s = .next t ∧ Effect s t := by
  refine ⟨_, rfl, ?_⟩
  split
  · next ms h => exact .holdoffEnds w ms h
  · exact .same
  · exact .same

theorem cycleAbandoned_effect (p : Port) : ∃ t, exec (.cycleAbandoned p) s = .next t ∧ Effect s t := by
  refine ⟨_, rfl, ?_⟩
  split
  · next h => exact .cycleAbandoned p h
  · exact .same

theorem cycleEndingExit_effect (p : Port) : ∃ t, exec (.cycleEndingExit p) s = .next t ∧ Effect s t := by
  refine ⟨_, rfl, ?_⟩
  split
  · next h => exact .endingExit p h
  · exact .same

theorem eventArrival_effect : ∃ t, exec .eventArrival s = .next t ∧ Effect s t := by
  refine ⟨_, rfl, ?_⟩
  split
  · exact .same
  · next n rest h => exact .arrives n rest h

/-- Every command completes, with one of the effects. -/
theorem exec_effect (c : Instr) : ∃ t, exec c s = .next t ∧ Effect s t := by
  cases c with
  | powerUp pbyp pwrgood resetn => exact powerUp_effect s pbyp pwrgood resetn
  | resetnRise pbyp pwrgood => exact resetnRise_effect s pbyp pwrgood
  | resetnFall answer => exact resetnFall_effect s answer
  | supplyLoss landed => exact supplyLoss_effect s landed
  | pwrgoodWaitEnd => exact pwrgoodWaitEnd_effect s
  | profileWordRead answer => exact profileWordRead_effect s answer
  | journalHeaderRead => exact journalHeaderRead_effect s
  | journalSlotCheckRead => exact journalSlotCheckRead_effect s
  | replayLoadRead => exact replayLoadRead_effect s
  | memoryPortGrant => exact memoryPortGrant_effect s
  | forwardedReadComplete answer => exact forwardedReadComplete_effect s answer
  | forwardedWriteComplete answer => exact forwardedWriteComplete_effect s answer
  | engineWriteComplete answer => exact engineWriteComplete_effect s answer
  | engineReadBackComplete answer => exact engineReadBackComplete_effect s answer
  | engineTake => exact engineTake_effect s
  | clientRead | clientWrite | commandAddressRead | openLease | closeLease | beginTxn | commitTxn | abortTxn
  | status | nextEvent | alertMask | endSession | badVerb => exact ⟨_, rfl, clientCycle_effect s ..⟩
  | stepTimerExpiry p => exact stepTimerExpiry_effect s p
  | lockoutTimerExpiry p => exact lockoutTimerExpiry_effect s p
  | idleTimerExpiry p => exact ⟨_, rfl, .idleTimerEnds p⟩
  | lifetimeTimerExpiry w => exact lifetimeTimerExpiry_effect s w
  | holdoffTimerExpiry w => exact holdoffTimerExpiry_effect s w
  | pwrgoodFall => exact pwrgoodFall_effect s
  | pwrgoodRise => exact pwrgoodRise_effect s
  | cycleAbandoned p => exact cycleAbandoned_effect s p
  | cycleEndingExit p => exact cycleEndingExit_effect s p
  | eventArrival => exact eventArrival_effect s
  | pwrgoodChangeInStartUp level => exact pwrgoodChangeInStartUp_effect s level

theorem effect_of_exec {c : Instr} {s t : State} (h : exec c s = .next t) : Effect s t := by
  obtain ⟨u, hu, heffect⟩ := exec_effect s c
  rw [hu] at h
  rwa [← Host.Outcome.next.inj h]

end Effects

/-- On an empty queue only the time base moves, and in a stopped part not even that. -/
theorem tick_eq (s : State) : ∃ n, tick s = { s with timeBase := n } ∧ (s.stage = .stopped → n = s.timeBase) := by
  unfold tick
  split
  · next h => exact ⟨_, rfl, fun hstopped => absurd hstopped h.1⟩
  · exact ⟨s.timeBase, rfl, fun _ => rfl⟩

/-- A step takes a command from the queue and has one of its effects, or, on an empty queue, counts a millisecond. -/
theorem step_effect {s t : State} (h : step s = .next t) :
    (∃ rest, Effect { s with pending := rest } t) ∨
      ∃ n, t = { s with timeBase := n } ∧ (s.stage = .stopped → n = s.timeBase) := by
  by_cases hp : s.pending = []
  · rw [step_nil s hp] at h
    rw [← Host.Outcome.next.inj h]
    exact .inr (tick_eq s)
  · obtain ⟨c, rest, hp⟩ := List.exists_cons_of_ne_nil hp
    rw [step_cons s c rest hp] at h
    exact .inl ⟨rest, effect_of_exec h⟩

/-- A law that neither the queue of commands nor the time base bears on is kept by every step when every effect keeps
it. -/
theorem law_of_step {Law Kept : State → Prop} (hpending : ∀ s rest, Law s → Law { s with pending := rest })
    (htime : ∀ s n, Law s → (s.stage = .stopped → n = s.timeBase) → Kept { s with timeBase := n })
    (heffect : ∀ s t, Law s → Effect s t → Kept t) {s t : State} (hlaw : Law s) (h : step s = .next t) :
    Kept t := by
  obtain ⟨rest, he⟩ | ⟨n, rfl, hn⟩ := step_effect h
  · exact heffect _ t (hpending s rest hlaw) he
  · exact htime s n hlaw hn

end Sys2Proof.Machine

/-! SUPPORT. The law of the event queue with the law of its readers (09 R171, R172): what raising, taking and storing
keep of it. -/

namespace Sys2Proof.Machine

/-- The event-queue law and the reader law together. -/
def EventsLaw (s : State) : Prop := EventLaw s ∧ ReaderLaw s

section Events

variable {s t : State}

/-- An audience taken now lies within the readers in force. -/
theorem audience_within (s : State) (who : Concerned) : audienceWithin (s.audience who) s.active.readers := by
  simp [audienceWithin, State.audience, State.reader, PerPort.get]

/-- While no profile is in force there is no reader, so no event is held (07 R136). -/
theorem EventsLaw.nothing_held (h : EventsLaw s) (hprofile : s.profile = none) : s.raised = [] ∧ s.records = [] := by
  obtain ⟨⟨hraised, -, -, hrecords, -⟩, hraised', hrecords', -⟩ := h
  have hnone {v : PerPort Bool} (hsome : v.some = true) : ¬ audienceWithin v s.active.readers := by
    have hreaders : s.active.readers = { a := false, b := false } := by
      rw [State.active, hprofile]
      rfl
    rw [hreaders]
    obtain ⟨a, b⟩ := v
    cases a <;> cases b <;> simp_all [PerPort.some, audienceWithin]
  exact ⟨List.eq_nil_iff_forall_not_mem.mpr fun n hn => hnone (hraised n hn).1 (hraised' n hn),
    List.eq_nil_iff_forall_not_mem.mpr fun r hr => hnone (hrecords r hr) (hrecords' r hr)⟩

theorem EventsLaw.of_empty (hraised : s.raised = []) (hrecords : s.records = [])
    (hprofile : s.stage = .waitPwrgood ∨ s.stage = .profileRead → s.profile = none) : EventsLaw s := by
  refine ⟨⟨?_, ?_, ?_, ?_, ?_⟩, ?_, ?_, hprofile⟩ <;> simp [hraised, hrecords, Config.recordCapacity]

/-- Events told to the readers in force keep the laws. -/
theorem Advances.events (hadv : Advances s t) (h : EventsLaw s) : EventsLaw t := by
  obtain ⟨⟨hraised, hcapacity, hordinary, hrecords, hmarker⟩, hraised', hrecords', hprofile⟩ := h
  obtain ⟨ns, hns, hall⟩ := hadv.tells
  have hreaders : t.active.readers = s.active.readers := by rw [hadv.active]
  rw [EventsLaw, EventLaw, ReaderLaw, hadv.records, hreaders, hns, hadv.profile]
  refine ⟨⟨fun n hn => ?_, hcapacity, hordinary, hrecords, hmarker⟩, fun n hn => ?_, hrecords', fun hstage => ?_⟩
  · obtain hn | hn := List.mem_append.mp hn
    · exact hraised n hn
    · exact (hall n hn).2
  · obtain hn | hn := List.mem_append.mp hn
    · exact hraised' n hn
    · rw [(hall n hn).1]
      exact audience_within s n.who
  · obtain hs | hs := hadv.stage
    · exact hprofile (hs ▸ hstage)
    · simp [hs] at hstage

theorem Operates.events (h : Operates s t) : EventsLaw s → EventsLaw t := h.advances.events

/-! ### Taking a record (09 R175) -/

theorem isMarker_withoutPort (p : Port) (r : EventRecord) : isMarker (withoutPort p r) = isMarker r := rfl

/-- A take leaves the list, or narrows one record to the port that has not taken it yet, or removes that record. -/
theorem takeRecord_cases (p : Port) (rs : List EventRecord) :
    takeRecord p rs = rs ∨
    ∃ before r after, rs = before ++ r :: after ∧
      ((takeRecord p rs = before ++ withoutPort p r :: after ∧ r.notice.audience.get (otherPort p) = true) ∨
        takeRecord p rs = before ++ after) := by
  induction rs with
  | nil => exact .inl rfl
  | cons r rest ih =>
    unfold takeRecord
    split
    · refine .inr ⟨[], r, rest, rfl, ?_⟩
      split
      · next hother => exact .inl ⟨rfl, hother⟩
      · exact .inr rfl
    · obtain ih | ⟨before, q, after, hrest, ih⟩ := ih
      · exact .inl (by rw [ih])
      · refine .inr ⟨r :: before, q, after, by rw [hrest]; rfl, ?_⟩
        obtain ⟨ih, hother⟩ | ih := ih
        · exact .inl ⟨by rw [ih]; rfl, hother⟩
        · exact .inr (by rw [ih]; rfl)

theorem some_of_get {v : PerPort Bool} {p : Port} (h : v.get p = true) : v.some = true := by
  cases p <;> simp_all [PerPort.some, PerPort.get]

theorem audienceWithin_set_false {v w : PerPort Bool} (h : audienceWithin v w) (p : Port) :
    audienceWithin (v.set p false) w := by
  cases p
  · exact ⟨fun hf => Bool.noConfusion hf, h.2⟩
  · exact ⟨h.1, fun hf => Bool.noConfusion hf⟩

theorem EventsLaw.takeRecord (h : EventsLaw s) (p : Port) :
    EventsLaw { s with records := takeRecord p s.records } := by
  obtain ⟨⟨hraised, hcapacity, hordinary, hrecords, hmarker⟩, hraised', hrecords', hprofile⟩ := h
  obtain hsame | ⟨before, r, after, hrs, ⟨htake, hother⟩ | htake⟩ := takeRecord_cases p s.records
  · rw [hsame]
    exact ⟨⟨hraised, hcapacity, hordinary, hrecords, hmarker⟩, hraised', hrecords', hprofile⟩
  · rw [hrs] at hcapacity hordinary hrecords hmarker hrecords'
    rw [htake]
    refine ⟨⟨hraised, by simpa using hcapacity, by simpa [List.countP_cons, isMarker_withoutPort] using hordinary,
      ?_, ?_⟩, hraised', ?_,
      hprofile⟩
    · intro o ho
      obtain ho | rfl | ho := by simpa using ho
      · exact hrecords o (by simp [ho])
      · exact some_of_get (p := otherPort p) (by simpa [withoutPort] using hother)
      · exact hrecords o (by simp [ho])
    · intro o ho
      cases after with
      | nil => exact hmarker o (by simpa using ho)
      | cons q rest =>
        rw [List.dropLast_append_of_ne_nil (by simp), List.dropLast_cons_cons] at ho hmarker
        obtain ho | rfl | ho := by simpa using ho
        · exact hmarker o (by simp [ho])
        · rw [isMarker_withoutPort]
          exact hmarker r (by simp)
        · exact hmarker o (by simp [ho])
    · intro o ho
      obtain ho | rfl | ho := by simpa using ho
      · exact hrecords' o (by simp [ho])
      · exact audienceWithin_set_false (hrecords' r (by simp)) p
      · exact hrecords' o (by simp [ho])
  · rw [hrs] at hcapacity hordinary hrecords hmarker hrecords'
    rw [htake]
    have hsub : (before ++ after).Sublist (before ++ r :: after) :=
      List.Sublist.append (List.Sublist.refl _) (List.sublist_cons_self _ _)
    refine ⟨⟨hraised, hsub.length_le.trans hcapacity,
      (Nat.add_le_add_right (hsub.countP_le (p := fun o => !isMarker o)) 1).trans hordinary,
      fun o ho => hrecords o (hsub.subset ho), fun o ho => ?_⟩, hraised', fun o ho => hrecords' o (hsub.subset ho),
      hprofile⟩
    cases after with
    | nil =>
      rw [List.append_nil] at ho
      exact hmarker o (by simp [List.mem_of_mem_dropLast ho])
    | cons q rest =>
      rw [List.dropLast_append_of_ne_nil (by simp)] at ho hmarker
      obtain ho | ho := List.mem_append.mp ho
      · exact hmarker o (by simp [ho])
      · exact hmarker o (by simp [ho])

/-! ### The arrival of an event (09 R172) -/

theorem isMarker_countDiscard (s : State) (r : EventRecord) : isMarker (s.countDiscard r) = isMarker r := by
  unfold State.countDiscard
  split <;> rfl

theorem countDiscard_audience (s : State) (r : EventRecord) :
    (s.countDiscard r).notice.audience = r.notice.audience := by
  unfold State.countDiscard
  split <;> rfl

theorem isMarker_iff (r : EventRecord) : isMarker r = true ↔ r.notice.name = .overflow := decide_eq_true_iff

/-- Storing a notice behind records of which none is a marker keeps the laws while a place is left for it. -/
theorem EventsLaw.store (h : EventsLaw s) (hmarkers : ∀ r ∈ s.records, isMarker r = false) {n : Notice}
    (hsome : n.audience.some = true) (hwithin : audienceWithin n.audience s.active.readers)
    (hroom : s.records.length + 1 ≤ Config.recordCapacity)
    (hlast : n.name ≠ .overflow → s.records.length + 2 ≤ Config.recordCapacity) : EventsLaw (store n s) := by
  obtain ⟨⟨hraised, -, -, hrecords, -⟩, hraised', hrecords', hprofile⟩ := h
  have hmem {r : EventRecord} (hr : r ∈ (Machine.store n s).records) : r ∈ s.records ∨ r.notice = n := by
    obtain hr | rfl := by simpa [Machine.store] using hr
    · exact .inl hr
    · exact .inr rfl
  refine ⟨⟨hraised, by simpa [Machine.store] using hroom, ?_, fun r hr => ?_, ?_⟩, hraised', fun r hr => ?_, hprofile⟩
  · have hle := List.countP_le_length (p := fun r => !isMarker r) (l := s.records)
    have hstored : (Machine.store n s).records.countP (fun r => !isMarker r) =
        s.records.countP (fun r => !isMarker r) + if n.name = .overflow then 0 else 1 := by
      by_cases hn : n.name = .overflow <;> simp [Machine.store, List.countP_append, isMarker, hn]
    rw [hstored]
    split
    · omega
    · next hn =>
      have := hlast hn
      omega
  · obtain hr | hr := hmem hr
    · exact hrecords r hr
    · rwa [hr]
  · simpa [Machine.store] using hmarkers
  · obtain hr | hr := hmem hr
    · exact hrecords' r hr
    · rwa [hr]

theorem EventsLaw.takeNotice {n : Notice} (h : EventsLaw s) (hsome : n.audience.some = true)
    (hwithin : audienceWithin n.audience s.active.readers) :
    EventsLaw (takeNotice n s) := by
  have ⟨⟨hraised, hcapacity, hordinary, hrecords, hmarker⟩, hraised', hrecords', hprofile⟩ := h
  unfold Machine.takeNotice
  split
  · refine ⟨⟨hraised, by simpa using hcapacity, ?_, ?_, ?_⟩, hraised', ?_, hprofile⟩
    · rw [List.countP_map]
      simpa only [Function.comp_def, isMarker_countDiscard] using hordinary
    · simpa [countDiscard_audience] using hrecords
    · simpa [← List.map_dropLast, isMarker_countDiscard] using hmarker
    · intro r hr
      obtain ⟨q, hq, rfl⟩ := List.mem_map.mp hr
      rw [countDiscard_audience]
      exact hrecords' q hq
  next hnone =>
  have hmarkers : ∀ r ∈ s.records, isMarker r = false := by simpa using hnone
  have hcount : s.records.countP (fun r => !isMarker r) = s.records.length :=
    List.countP_eq_length.mpr fun r hr => by simp [hmarkers r hr]
  split
  · next hroom => exact h.store hmarkers hsome hwithin (Nat.le_of_lt hroom) fun _ => hroom
  · have hreaders : s.newMarker.audience.some = true := by
      obtain ⟨ha, hb⟩ := hwithin
      simp only [PerPort.some, Bool.or_eq_true] at hsome ⊢
      exact hsome.imp ha hb
    exact h.store hmarkers hreaders ⟨id, id⟩ (hcount ▸ hordinary) fun hne => absurd rfl hne

end Events

end Sys2Proof.Machine

/-! SUPPORT. What every effect keeps: the waiting commands, the memory but for the write in flight, the pins and the
start-up values of a stopped part; and the laws of memory and of a stopped part. -/

namespace Sys2Proof.Machine

/-! ### What an access to the part leaves outside its operations -/

/-- `t` agrees with `s` on the supply, the reset pin, the stage, the profile, the client side of the memory port, the
memory and the waiting commands, and keeps the laws of events. -/
structure Steady (s t : State) : Prop where
  supply : t.supply = s.supply
  resetn : t.resetn = s.resetn
  stage : t.stage = s.stage
  profile : t.profile = s.profile
  ports : t.ports = s.ports
  client : t.waiting.client = s.waiting.client
  inFlight : t.inFlight = s.inFlight
  memory : t.memory = s.memory
  pending : t.pending = s.pending
  events : EventsLaw s → EventsLaw t

theorem Operates.steady {s t : State} (h : Operates s t) : Steady s t :=
  ⟨h.supply, h.resetn, h.stage, h.profile, h.ports, h.client, h.inFlight, h.memory, h.pending,
    h.events⟩

theorem Steady.trans {s t u : State} (h : Steady s t) (k : Steady t u) : Steady s u :=
  ⟨k.supply.trans h.supply, k.resetn.trans h.resetn, k.stage.trans h.stage, k.profile.trans h.profile,
    k.ports.trans h.ports, k.client.trans h.client, k.inFlight.trans h.inFlight, k.memory.trans h.memory,
    k.pending.trans h.pending, fun hs => k.events (h.events hs)⟩

theorem Steady.active {s t : State} (h : Steady s t) : t.active = s.active :=
  congrArg (·.getD noProfile) h.profile

theorem takeRecord_steady (p : Port) (s : State) : Steady s { s with records := takeRecord p s.records } :=
  ⟨rfl, rfl, rfl, rfl, rfl, rfl, rfl, rfl, rfl, fun h => h.takeRecord p⟩

theorem setAlertMask_steady (p : Port) (m : BitVec 8) (s : State) : Steady s (s.setAlertMask p m) :=
  ⟨rfl, rfl, rfl, rfl, rfl, rfl, rfl, rfl, rfl, id⟩

theorem performCommand_steady (p : Port) (x : Session) (command : Word) (s : State) :
    Steady s (performCommand p x command s) := by
  obtain h | h | h := performCommand_operates p x s command
  · exact h.steady
  · exact (takeRecord_steady p s).trans h.steady
  · exact (setAlertMask_steady p _ s).trans h.steady

/-- A write that no step forwards is absorbed or staged, and its cycle completes. -/
theorem applyWrite_settles (p : Port) (x : Addr) (d : Word) (s : State) {course : WriteCourse}
    (h : course ≠ .forward) : ∃ u, Steady s u ∧ applyWrite p x d course s = completeCycle p none u := by
  have hsettles {u : State} (hu : Operates s u) :
      ∃ v, Steady s v ∧ settleWrite p x d u = completeCycle p none v :=
    ⟨observe p x d u, (hu.trans (observe_operates ..)).steady, rfl⟩
  cases course with
  | reserved => exact hsettles (raiseAccess_operates p s (by decide) ..)
  | portDenied w => exact hsettles (raiseAccess_operates p s (by decide) ..)
  | fenced => exact ⟨countAbsorbed s, ⟨rfl, rfl, rfl, rfl, rfl, rfl, rfl, rfl, rfl, id⟩, rfl⟩
  | denied w => exact hsettles (raiseAccess_operates p s (by decide) ..)
  | conflict w => exact hsettles (raiseAccess_operates p s (by decide) ..)
  | stage w => exact hsettles (stageWrite_operates ..)
  | forward => exact absurd rfl h

/-- A write is forwarded only outside the journal area and where its port's mask admits it (01 R12, R13). -/
theorem writeCourse_of_forward {s : State} {p : Port} {x : Addr} (h : s.writeCourse p x = .forward) :
    s.inJournal x = false ∧ s.admits p (s.windowOf x) = true := by
  unfold State.writeCourse at h
  split at h
  · cases h
  · next hjournal =>
    refine ⟨by simpa using hjournal, ?_⟩
    cases hw : s.windowOf x with
    | none => rfl
    | some i =>
      simp only [hw] at h
      by_cases hp : (s.window i).ports.get p = true
      · exact hp
      · simp [hp] at h

/-- An access that is judged completes its port's cycle, or waits for the memory port. -/
theorem judgeAccess_cases (p : Port) (kind : AccessKind) (x : Addr) (s : State) :
    (∃ a u, Steady s u ∧ judgeAccess p kind x s = completeCycle p a u) ∨
    judgeAccess p kind x s = requestClient p kind x s ∧
      ∀ d, kind = .write d → s.inJournal x = false ∧ s.admits p (s.windowOf x) = true := by
  cases kind with
  | read =>
    cases hc : s.readCourse p x with
    | fill => exact .inl ⟨some s.active.fill, s, (Operates.refl s).steady, by simp only [judgeAccess, hc, applyRead]⟩
    | answered v => exact .inl ⟨some v, s, (Operates.refl s).steady, by simp only [judgeAccess, hc, applyRead]⟩
    | forward => exact .inr ⟨by simp only [judgeAccess, hc, applyRead], by simp⟩
  | write d =>
    by_cases hc : s.writeCourse p x = .forward
    · exact .inr ⟨by simp only [judgeAccess, hc, applyWrite], fun _ _ => writeCourse_of_forward hc⟩
    · obtain ⟨u, hu, heq⟩ := applyWrite_settles p x d s hc
      exact .inl ⟨none, u, hu, heq⟩

/-- A cycle just taken completes at once, counted before READY, or waits for the memory port. -/
theorem settleCycle_cases (p : Port) (kind : AccessKind) (x : Addr) (s : State) :
    (∃ a u, Steady s u ∧ settleCycle p kind x s = completeCycle p a u) ∨
    (s.stage ≠ .stopped ∧ ∃ a, settleCycle p kind x s = completeCycle p a (countEarly p s)) ∨
    (s.stage = .operating ∧ ∃ u, Steady s u ∧ settleCycle p kind x s = requestClient p kind x u ∧
      ∀ d, kind = .write d → s.inJournal x = false ∧ s.admits p (s.windowOf x) = true) := by
  unfold settleCycle
  split
  · exact .inl ⟨_, s, (Operates.refl s).steady, rfl⟩
  split
  · next hready =>
    have hidle : Steady s (restartIdle p s) := (restartIdle_operates p s).steady
    unfold decideAccess
    dsimp only
    split
    · next y _ =>
      cases kind with
      | read => exact .inl ⟨_, _, hidle.trans (setSession_operates ..).steady, rfl⟩
      | write d => exact .inl ⟨_, _, hidle.trans (performCommand_steady ..), rfl⟩
    · obtain ⟨a, u, hu, heq⟩ | ⟨heq, hwrite⟩ := judgeAccess_cases p kind x (restartIdle p s)
      · exact .inl ⟨a, u, hidle.trans hu, heq⟩
      · refine .inr (.inr ⟨by simpa [State.ready] using hready, _, hidle, heq, ?_⟩)
        simpa only [State.inJournal, State.journalEntries, State.admits, State.windowOf, State.window, hidle.active]
          using hwrite
  · next hstopped _ => exact .inr (.inl ⟨hstopped, _, rfl⟩)

/-- A client port's grant begins its access, or completes its cycle (01 R15, R21). -/
theorem useClientGrant_cases (p : Port) (q : Request) (s : State) :
    (∃ a u, Steady s u ∧ useClientGrant p q s = completeCycle p a u) ∨
    useClientGrant p q s = beginAccess (.client p) q s := by
  unfold useClientGrant
  split
  · split
    · exact .inl ⟨_, s, (Operates.refl s).steady, rfl⟩
    · exact .inr rfl
  · split
    · exact .inr rfl
    · next d _ _ hcourse =>
      obtain ⟨u, hu, heq⟩ := applyWrite_settles p q.addr d s hcourse
      exact .inl ⟨none, u, hu, heq⟩

/-! ### Effects and the waiting commands, the memory -/

/-- The waiting commands are those of `s`, and the memory changed at most where a write was in flight. -/
structure Writes (s t : State) : Prop where
  pending : t.pending = s.pending
  memory : t.memory = s.memory ∨
    ∃ (x : Access) (d v : Word), s.inFlight = some x ∧ x.kind = .write d ∧ t.memory = memWrite s.memory x.addr.toNat v

section Writes

variable {s t : State}

theorem Advances.writes (h : Advances s t) : Writes s t := ⟨h.pending, .inl h.memory⟩

theorem Operates.writes (h : Operates s t) : Writes s t := h.advances.writes

variable (s)

theorem finishWrite_writes (left : Word → Word → Word) : Writes s (finishWrite left s) := by
  unfold finishWrite
  split
  · next d x h => exact ⟨rfl, .inr ⟨_, d, _, h, rfl, rfl⟩⟩
  · exact ⟨rfl, .inl rfl⟩

theorem startUp_writes : Writes s (startUp s) := by
  unfold startUp
  dsimp only
  split
  · have h := (raise_operates (installProfile bypassProfile .bypass (initialise s)) (name := .bypass) (by decide)
      .part none 0#16 0#16).advances.trans (advances_closed.readyRise _)
    exact ⟨h.pending, .inl h.memory⟩
  split
  · exact ⟨rfl, .inl rfl⟩
  · exact ⟨rfl, .inl rfl⟩

theorem concludeProfile_writes : Writes s (concludeProfile s) := by
  unfold concludeProfile
  split
  · dsimp only
    split
    · have h := advances_closed.readyRise (installProfile (parseProfile s.candidate) .valid s)
      exact ⟨h.pending, .inl h.memory⟩
    · exact ⟨rfl, .inl rfl⟩
  · next reason item _ =>
    have h := (raise_operates (installProfile fallbackProfile (.rejected reason) { s with candidate := [] })
      (name := .profileRejected) (by decide) .part none ((rejectCode reason).setWidth 16) item).advances.trans
      (advances_closed.readyRise _)
    exact ⟨h.pending, .inl h.memory⟩

theorem takeProfileWord_writes (w : Word) : Writes s (takeProfileWord w s) := by
  unfold takeProfileWord
  dsimp only
  split
  · exact ⟨rfl, .inl rfl⟩
  · have h := concludeProfile_writes { s with candidate := s.candidate ++ [w], inFlight := none }
    refine ⟨h.pending, h.memory.imp_right ?_⟩
    rintro ⟨x, d, v, hx, -⟩
    cases hx

theorem enterFence_operates : Operates { s with fence := .fenced } (enterFence s) := by
  unfold enterFence
  dsimp only
  exact ((((((raise_operates _ (by decide) ..).trans (endSession_operates .a _ _)).trans
    (endSession_operates .b _ _)).trans (fenceSqr_operates .a _)).trans (fenceSqr_operates .b _)).trans
    (operates_closed.endQueued _ _)).trans (fenceEngine_operates _)

theorem takeNotice_writes (n : Notice) : Writes s (takeNotice n s) := by
  rw [takeNotice_frame]
  exact ⟨rfl, .inl rfl⟩

theorem settleCycle_writes (p : Port) (kind : AccessKind) (x : Addr) : Writes s (settleCycle p kind x s) := by
  obtain ⟨a, u, hu, heq⟩ | ⟨-, a, heq⟩ | ⟨-, u, hu, heq, -⟩ := settleCycle_cases p kind x s
  · exact heq ▸ ⟨hu.pending, .inl hu.memory⟩
  · exact heq ▸ ⟨rfl, .inl rfl⟩
  · exact heq ▸ ⟨hu.pending, .inl hu.memory⟩

theorem useGrant_keeps (r : Requester) (q : Request) :
    (useGrant r q s).pending = s.pending ∧ (useGrant r q s).memory = s.memory := by
  cases r with
  | client p =>
    obtain ⟨a, u, hu, heq⟩ | heq := useClientGrant_cases p q s
    · simp only [useGrant, heq]
      exact ⟨hu.pending, hu.memory⟩
    · simp only [useGrant, heq]
      exact ⟨rfl, rfl⟩
  | engine => exact ⟨rfl, rfl⟩

theorem grantTo_keeps (r : Requester) : (grantTo r s).pending = s.pending ∧ (grantTo r s).memory = s.memory := by
  cases r <;> exact ⟨rfl, rfl⟩

end Writes

/-- Memory changes at most where a write is in flight, and no effect touches the waiting commands. -/
theorem Effect.writes {s t : State} (h : Effect s t) : Writes s t := by
  have quiet {u : State} (hp : u.pending = s.pending) (hm : u.memory = s.memory) : Writes s u := ⟨hp, .inl hm⟩
  cases h with
  | startsUp pbyp pwrgood =>
    have h := startUp_writes { s with supply := true, resetn := true, pwrgood := pwrgood, pbyp := pbyp }
    exact ⟨h.pending, h.memory⟩
  | resetnFalls left | supplyLost left =>
    have h := finishWrite_writes s left
    exact ⟨h.pending, h.memory⟩
  | fenceEntered => exact quiet (enterFence_operates _).pending (enterFence_operates _).memory
  | fenceLeft =>
    have h := raise_operates { s with pwrgood := true } (name := .fenceLeft) (by decide) .part none 0#16 s.absorbed
    exact quiet h.pending h.memory
  | profileWord w => exact takeProfileWord_writes s w
  | headerWord w => exact quiet (advances_closed.takeHeaderWord s w).pending (advances_closed.takeHeaderWord s w).memory
  | checkWord w => exact quiet (advances_closed.takeCheckWord s w).pending (advances_closed.takeCheckWord s w).memory
  | loadWord w => exact quiet (advances_closed.takeLoadWord s w).pending (advances_closed.takeLoadWord s w).memory
  | granted r q =>
    obtain ⟨hp, hm⟩ := useGrant_keeps (grantTo r s) r q
    exact quiet (hp.trans (grantTo_keeps s r).1) (hm.trans (grantTo_keeps s r).2)
  | writeDone p x d w writes =>
    have h := (spendAt_operates p ((s.writeWord x w).setInFlight none) x).trans (observe_operates p _ x d)
    exact ⟨h.pending, .inr ⟨_, d, w, writes, rfl, h.memory⟩⟩
  | engineWrote w x d v writes =>
    have h := (operates_closed.advanceNumber ((s.writeWord x v).setInFlight none) w).advances.trans
      (advances_closed.afterWrite _ w)
    exact ⟨h.pending, .inr ⟨_, d, v, writes, rfl, h.memory⟩⟩
  | engineVerified w x v =>
    have h := advances_closed.afterReadBack (s.setInFlight none) w v
    exact quiet h.pending h.memory
  | engineTakes => exact (operates_closed.engineTake s).writes
  | cycleTaken p kind x gone =>
    have h := settleCycle_writes (s.setPort p (heldPort kind x gone (s.ports.get p))) p kind x
    exact ⟨h.pending, h.memory⟩
  | stepTimerEnds p =>
    split
    · exact (countBreak_operates ..).writes
    · exact (setSqr_operates ..).writes
  | lockoutEnds p => exact ((setSqr_operates s p _).trans (raise_operates _ (by decide) ..)).writes
  | idleTimerEnds p => exact (endSession_operates ..).writes
  | lifetimeEnds w => exact (endLease_operates ..).writes
  | arrives n rest =>
    have h := takeNotice_writes { s with raised := rest } n
    exact ⟨h.pending, h.memory⟩
  | same | heldInReset | resetnMoves | pwrgoodMoves | waitEnds | readAnswered | holdoffEnds | cycleAbandoned
  | endingExit => exact quiet rfl rfl

/-- Settles O3: every command has an effect, and no effect touches the waiting commands. -/
theorem everyCommandCompletesAndLeavesTheQueue : Obligations.EveryCommandCompletesAndLeavesTheQueue := by
  intro c s
  obtain ⟨t, ht, heffect⟩ := exec_effect s c
  exact ⟨t, ht, heffect.writes.pending⟩

/-- Settles O4: an effect writes at most the word of the write in flight, and other words read as before. -/
theorem memoryChangesOnlyAtTheWriteInFlight : Obligations.MemoryChangesOnlyAtTheWriteInFlight := by
  intro c s t h a hchanged
  obtain hsame | ⟨x, d, v, hx, hd, hmem⟩ := (effect_of_exec h).writes.memory
  · exact absurd (by rw [hsame]) hchanged
  · refine ⟨x, d, hx, hd, Decidable.byContradiction fun hne => hchanged ?_⟩
    rw [hmem, memRead_memWrite_other _ _ _ _ (Ne.symm hne)]

/-- Settles O6: the one write of an effect is a write inside the memory. -/
theorem memoryLawIsKept : Obligations.MemoryLawIsKept := by
  intro s t
  refine law_of_step (fun _ _ h => h) (fun _ _ h _ => h) fun s t hlaw heffect => ?_
  obtain hsame | ⟨x, d, v, -, -, hmem⟩ := heffect.writes.memory
  · rwa [MemoryLaw, hsame]
  · rw [MemoryLaw, hmem]
    exact memWrite_wf _ _ _ (addr_lt_memoryWords x.addr) hlaw

end Sys2Proof.Machine

/-! SUPPORT. A stopped part: the start-up values its blocks hold, and the law that a part is stopped exactly without
supply or in reset (07 R135, R136). -/

namespace Sys2Proof.Machine

/-- Every block is at its start-up value; the pins, the cycles, the memory and the waiting commands stand apart. -/
def AtRest (s : State) : Prop := s = { initialise s with ports := s.ports }

/-- The blocks are stopped exactly without supply or in reset, and then hold their start-up values. -/
def RestLaw (s : State) : Prop := ResetLaw s ∧ (s.stage = .stopped → AtRest s)

namespace AtRest

variable {s : State}

theorem stage (h : AtRest s) : s.stage = .stopped := (congrArg State.stage h :)
theorem recovery (h : AtRest s) : s.recovery = Recovery.fresh := (congrArg State.recovery h :)
theorem sqr (h : AtRest s) : s.sqr = { a := Sqr.fresh, b := Sqr.fresh } := (congrArg State.sqr h :)
theorem sessions (h : AtRest s) : s.sessions = { a := none, b := none } := (congrArg State.sessions h :)
theorem leases (h : AtRest s) : s.leases = Vector.replicate 16 .closed := (congrArg State.leases h :)
theorem waiting (h : AtRest s) : s.waiting = { client := { a := none, b := none }, engine := none } :=
  (congrArg State.waiting h :)
theorem inFlight (h : AtRest s) : s.inFlight = none := (congrArg State.inFlight h :)
theorem fence (h : AtRest s) : s.fence = .opened := (congrArg State.fence h :)
theorem raised (h : AtRest s) : s.raised = [] := (congrArg State.raised h :)

theorem with_ports (h : AtRest s) (v : PerPort ClientPort) : AtRest { s with ports := v } :=
  (congrArg (fun u => { u with ports := v }) h :)

theorem with_pwrgood (h : AtRest s) (level : Bool) : AtRest { s with pwrgood := level } :=
  (congrArg (fun u => { u with pwrgood := level }) h :)

theorem with_resetn (h : AtRest s) (level : Bool) : AtRest { s with resetn := level } :=
  (congrArg (fun u => { u with resetn := level }) h :)

theorem with_pending (h : AtRest s) (rest : List Instr) : AtRest { s with pending := rest } :=
  (congrArg (fun u => { u with pending := rest }) h :)

theorem sqr_fresh (h : AtRest s) (p : Port) : s.sqr.get p = Sqr.fresh := by
  cases p <;> simp [h.sqr, PerPort.get]

theorem session_none (h : AtRest s) (p : Port) : s.sessions.get p = none := by
  cases p <;> simp [h.sessions, PerPort.get]

theorem lease_closed (h : AtRest s) (w : Fin 16) : s.lease w = .closed := by
  simp [State.lease, h.leases]

theorem nextGrant (h : AtRest s) : s.nextGrant = none := by
  have hnone (r : Requester) : s.waiting.of r = none := by
    obtain ⟨⟨⟩⟩ | _ := r <;> simp [h.waiting, Waiting.of, PerPort.get]
  simp [State.nextGrant, hnone]

end AtRest

section RestLaw

variable {s t : State}

theorem RestLaw.of_atRest (hstopped : ¬ (s.supply = true ∧ s.resetn = true)) (h : AtRest s) : RestLaw s :=
  ⟨iff_of_true h.stage hstopped, fun _ => h⟩

theorem RestLaw.of_running (hsupply : s.supply = true) (hresetn : s.resetn = true) (hstage : s.stage ≠ .stopped) :
    RestLaw s :=
  ⟨iff_of_false hstage (not_not_intro ⟨hsupply, hresetn⟩), fun h => absurd h hstage⟩

/-- A running part that keeps its supply and its reset pin, and runs on. -/
theorem RestLaw.run_on (h : RestLaw s) (hrun : s.stage ≠ .stopped) (hsupply : t.supply = s.supply)
    (hresetn : t.resetn = s.resetn) (hstage : t.stage ≠ .stopped) : RestLaw t := by
  have hpins : s.supply = true ∧ s.resetn = true := Decidable.not_not.mp (mt h.1.mpr hrun)
  exact .of_running (hsupply.trans hpins.1) (hresetn.trans hpins.2) hstage

theorem RestLaw.advance {u : State} (hadv : Advances u t) (h : RestLaw s) (hrun : s.stage ≠ .stopped)
    (hsupply : u.supply = s.supply) (hresetn : u.resetn = s.resetn) (hstage : u.stage = s.stage) : RestLaw t := by
  refine h.run_on hrun (hadv.supply.trans hsupply) (hadv.resetn.trans hresetn) ?_
  obtain hs | hs := hadv.stage
  · rwa [hs, hstage]
  · rw [hs]
    decide

theorem startUp_board (s : State) :
    (startUp s).supply = s.supply ∧ (startUp s).resetn = s.resetn ∧ (startUp s).stage ≠ .stopped := by
  unfold startUp
  dsimp only
  split
  · have h := (raise_operates (installProfile bypassProfile .bypass (initialise s)) (name := .bypass) (by decide)
      .part none 0#16 0#16).advances.trans (advances_closed.readyRise _)
    exact ⟨h.supply, h.resetn, fun hs => Stage.noConfusion ((readyRise_stage _).symm.trans hs)⟩
  split
  · exact ⟨rfl, rfl, Stage.noConfusion⟩
  · exact ⟨rfl, rfl, Stage.noConfusion⟩

theorem startUp_restLaw (pbyp pwrgood : Bool) :
    RestLaw (startUp { s with supply := true, resetn := true, pwrgood := pwrgood, pbyp := pbyp }) := by
  obtain ⟨hsupply, hresetn, hstage⟩ := startUp_board
    { s with supply := true, resetn := true, pwrgood := pwrgood, pbyp := pbyp }
  exact .of_running hsupply hresetn hstage

theorem heldInReset_restLaw (pbyp pwrgood : Bool) :
    RestLaw (initialise { s with supply := true, resetn := false, pwrgood := pwrgood, pbyp := pbyp }) :=
  .of_atRest (by simp [initialise]) rfl

theorem resetnFalls_restLaw (left : Word → Word → Word) :
    RestLaw { endActivity (finishWrite left s) with resetn := false } :=
  .of_atRest (by simp) rfl

theorem supplyLost_restLaw (left : Word → Word → Word) :
    RestLaw { endActivity (finishWrite left s) with supply := false } :=
  .of_atRest (by simp) rfl

end RestLaw

/-! ### Effects on a running part -/

section Running

variable {s t : State}

theorem takeProfileWord_board (w : Word) (s : State) : (takeProfileWord w s).supply = s.supply ∧
    (takeProfileWord w s).resetn = s.resetn ∧ (s.stage ≠ .stopped → (takeProfileWord w s).stage ≠ .stopped) := by
  have hrise {u : State} (hsupply : u.supply = s.supply) (hresetn : u.resetn = s.resetn) :
      (readyRise u).supply = s.supply ∧ (readyRise u).resetn = s.resetn ∧
        (s.stage ≠ .stopped → (readyRise u).stage ≠ .stopped) := by
    have h := advances_closed.readyRise u
    exact ⟨h.supply.trans hsupply, h.resetn.trans hresetn,
      fun _ hs => Stage.noConfusion ((readyRise_stage u).symm.trans hs)⟩
  unfold takeProfileWord concludeProfile
  dsimp only
  split
  · exact ⟨rfl, rfl, id⟩
  split
  · split
    · exact hrise rfl rfl
    · exact ⟨rfl, rfl, fun _ => Stage.noConfusion⟩
  · next reason item _ =>
    have h := raise_operates (installProfile fallbackProfile (.rejected reason)
      { s with candidate := [], inFlight := none }) (name := .profileRejected) (by decide) .part none
      ((rejectCode reason).setWidth 16) item
    exact hrise h.supply h.resetn

theorem useGrant_board (r : Requester) (q : Request) (s : State) : (useGrant r q s).supply = s.supply ∧
    (useGrant r q s).resetn = s.resetn ∧ (useGrant r q s).stage = s.stage := by
  cases r with
  | client p =>
    obtain ⟨a, u, hu, heq⟩ | heq := useClientGrant_cases p q s
    · rw [useGrant, heq]
      exact ⟨hu.supply, hu.resetn, hu.stage⟩
    · rw [useGrant, heq]
      exact ⟨rfl, rfl, rfl⟩
  | engine => exact ⟨rfl, rfl, rfl⟩

theorem settleCycle_board (p : Port) (kind : AccessKind) (x : Addr) (s : State) :
    (settleCycle p kind x s).supply = s.supply ∧ (settleCycle p kind x s).resetn = s.resetn ∧
      (settleCycle p kind x s).stage = s.stage := by
  obtain ⟨a, u, hu, heq⟩ | ⟨-, a, heq⟩ | ⟨-, u, hu, heq, -⟩ := settleCycle_cases p kind x s
  · rw [heq]
    exact ⟨hu.supply, hu.resetn, hu.stage⟩
  · rw [heq]
    exact ⟨rfl, rfl, rfl⟩
  · rw [heq]
    exact ⟨hu.supply, hu.resetn, hu.stage⟩

/-- A running part stays under the law of a stopped part. -/
theorem Effect.restLaw_of_running (hlaw : RestLaw s) (hrun : s.stage ≠ .stopped) (h : Effect s t) : RestLaw t := by
  cases h with
  | same => exact hlaw
  | startsUp pbyp pwrgood => exact startUp_restLaw pbyp pwrgood
  | heldInReset pbyp pwrgood => exact heldInReset_restLaw pbyp pwrgood
  | resetnFalls left => exact resetnFalls_restLaw left
  | supplyLost left => exact supplyLost_restLaw left
  | resetnMoves level supply => exact absurd (hlaw.1.mpr (by simp [supply])) hrun
  | fenceEntered => exact .advance (enterFence_operates { s with pwrgood := false }).advances hlaw hrun rfl rfl rfl
  | fenceLeft =>
    have h := raise_operates { s with pwrgood := true } (name := .fenceLeft) (by decide) .part none 0#16 s.absorbed
    exact hlaw.run_on hrun h.supply h.resetn (fun hs => hrun (h.stage.symm.trans hs))
  | waitEnds => exact hlaw.run_on hrun rfl rfl Stage.noConfusion
  | profileWord w =>
    obtain ⟨hsupply, hresetn, hstage⟩ := takeProfileWord_board w s
    exact hlaw.run_on hrun hsupply hresetn (hstage hrun)
  | headerWord w => exact .advance (advances_closed.takeHeaderWord s w) hlaw hrun rfl rfl rfl
  | checkWord w => exact .advance (advances_closed.takeCheckWord s w) hlaw hrun rfl rfl rfl
  | loadWord w => exact .advance (advances_closed.takeLoadWord s w) hlaw hrun rfl rfl rfl
  | granted r q =>
    obtain ⟨hsupply, hresetn, hstage⟩ := useGrant_board r q (grantTo r s)
    have hgrant : (grantTo r s).supply = s.supply ∧ (grantTo r s).resetn = s.resetn ∧
        (grantTo r s).stage = s.stage := by
      cases r <;> exact ⟨rfl, rfl, rfl⟩
    exact hlaw.run_on hrun (hsupply.trans hgrant.1) (hresetn.trans hgrant.2.1)
      (fun hs => hrun ((hstage.trans hgrant.2.2).symm.trans hs))
  | writeDone p x d w =>
    have h := (spendAt_operates p ((s.writeWord x w).setInFlight none) x).trans (observe_operates p _ x d)
    exact hlaw.run_on hrun h.supply h.resetn (fun hs => hrun (h.stage.symm.trans hs))
  | engineWrote w x d v =>
    exact .advance ((operates_closed.advanceNumber ((s.writeWord x v).setInFlight none) w).advances.trans
      (advances_closed.afterWrite _ w)) hlaw hrun rfl rfl rfl
  | engineVerified w x v =>
    exact .advance (advances_closed.afterReadBack (s.setInFlight none) w v) hlaw hrun rfl rfl rfl
  | engineTakes => exact .advance (operates_closed.engineTake s).advances hlaw hrun rfl rfl rfl
  | cycleTaken p kind x gone =>
    obtain ⟨hsupply, hresetn, hstage⟩ := settleCycle_board p kind x
      (s.setPort p (heldPort kind x gone (s.ports.get p)))
    exact hlaw.run_on hrun hsupply hresetn (fun hs => hrun (hstage.symm.trans hs))
  | stepTimerEnds p =>
    split
    · exact .advance (countBreak_operates ..).advances hlaw hrun rfl rfl rfl
    · exact .advance (setSqr_operates ..).advances hlaw hrun rfl rfl rfl
  | lockoutEnds p =>
    exact .advance ((setSqr_operates s p _).trans (raise_operates _ (by decide) ..)).advances hlaw hrun rfl rfl rfl
  | idleTimerEnds p => exact .advance (endSession_operates ..).advances hlaw hrun rfl rfl rfl
  | lifetimeEnds w => exact .advance (endLease_operates ..).advances hlaw hrun rfl rfl rfl
  | arrives n rest =>
    rw [takeNotice_frame]
    exact hlaw.run_on hrun rfl rfl hrun
  | pwrgoodMoves | readAnswered | holdoffEnds | cycleAbandoned | endingExit => exact hlaw.run_on hrun rfl rfl hrun

end Running

/-! ### Effects on a stopped part -/

section Stopped

variable {s t : State}

/-- The ports and the level of PWRGOOD are all that changes at a stopped part that stays without supply or in
reset. -/
theorem RestLaw.still (hlaw : ResetLaw s) (hrest : AtRest s) (v : PerPort ClientPort) (level : Bool) :
    RestLaw { s with ports := v, pwrgood := level } :=
  .of_atRest (hlaw.mp hrest.stage) ((hrest.with_ports v).with_pwrgood level)

/-- A stopped part keeps its start-up values, or starts up. -/
theorem Effect.restLaw_of_atRest (hlaw : ResetLaw s) (hrest : AtRest s) (h : Effect s t) : RestLaw t := by
  have hsame : RestLaw s := .of_atRest (hlaw.mp hrest.stage) hrest
  have hports (v : PerPort ClientPort) : RestLaw { s with ports := v } := .still hlaw hrest v s.pwrgood
  have hfree {a : Access} (ha : s.inFlight = some a) : RestLaw t := by
    rw [hrest.inFlight] at ha
    cases ha
  have hrun {stage : Stage} (hs : s.stage = stage) (hne : .stopped ≠ stage) : RestLaw t :=
    absurd (hrest.stage.symm.trans hs) hne
  cases h with
  | same => exact hsame
  | startsUp pbyp pwrgood => exact startUp_restLaw pbyp pwrgood
  | heldInReset pbyp pwrgood => exact heldInReset_restLaw pbyp pwrgood
  | resetnFalls left => exact resetnFalls_restLaw left
  | supplyLost left => exact supplyLost_restLaw left
  | resetnMoves level supply => exact .of_atRest (by simp [supply]) (hrest.with_resetn level)
  | pwrgoodMoves level => exact .still hlaw hrest s.ports level
  | fenceEntered ready => exact hrun ready Stage.noConfusion
  | fenceLeft fenced => exact Fence.noConfusion (hrest.fence.symm.trans fenced)
  | waitEnds waits => exact hrun waits Stage.noConfusion
  | profileWord w x stage => exact hrun stage Stage.noConfusion
  | headerWord w x phase reads | checkWord w x phase reads | loadWord w x phase reads => exact hfree reads
  | granted r q free next =>
    rw [hrest.nextGrant] at next
    cases next
  | readAnswered p x w reads => exact hfree reads
  | writeDone p x d w writes => exact hfree writes
  | engineWrote w x d v writes => exact hfree writes
  | engineVerified w x v reads => exact hfree reads
  | engineTakes ready => exact hrun ready Stage.noConfusion
  | cycleTaken p kind x gone =>
    have hcycle : settleCycle p kind x (s.setPort p (heldPort kind x gone (s.ports.get p))) =
        completeCycle p (fixedAnswer kind Config.fillBeforeReady)
          (s.setPort p (heldPort kind x gone (s.ports.get p))) := if_pos hrest.stage
    rw [hcycle]
    exact hports _
  | stepTimerEnds p watching runs => exact absurd (by rw [hrest.sqr_fresh]; rfl) runs
  | lockoutEnds p locked =>
    rw [hrest.sqr_fresh] at locked
    cases locked
  | idleTimerEnds p =>
    have hidle : endSession p .idle s = s := by simp only [endSession, hrest.session_none]
    rwa [hidle]
  | lifetimeEnds w =>
    have hclosed : endLease w .lifetime s = s := by simp only [endLease, hrest.lease_closed]
    rwa [hclosed]
  | holdoffEnds w ms holdoff =>
    rw [hrest.lease_closed] at holdoff
    cases holdoff
  | cycleAbandoned p => exact hports _
  | endingExit p => exact hports _
  | arrives n rest front =>
    rw [hrest.raised] at front
    cases front

end Stopped

/-- Settles O5: a running part keeps its pins and runs on, or is stopped or started up whole; a stopped part meets no
event but at its pins and its cycles. -/
theorem stoppedPartHoldsStartUpValues : Obligations.StoppedPartHoldsStartUpValues := by
  intro s t
  refine law_of_step (Law := RestLaw) (Kept := RestLaw) (fun s rest h => ⟨h.1, fun hs => (h.2 hs).with_pending rest⟩)
    (fun s n h hn => ⟨h.1, fun hs => ?_⟩) fun s t h heffect => ?_
  · rw [hn hs]
    exact h.2 hs
  · by_cases hstopped : s.stage = .stopped
    · exact heffect.restLaw_of_atRest h.1 (h.2 hstopped)
    · exact heffect.restLaw_of_running h hstopped

end Sys2Proof.Machine

/-! SUPPORT. The law of the event queue is kept by every effect (09 R171, R172). -/

namespace Sys2Proof.Machine

section EventEffects

variable {s t : State}

theorem startUp_events (s : State) : EventsLaw (startUp s) := by
  unfold startUp
  dsimp only
  split
  · have hempty : EventsLaw (installProfile bypassProfile .bypass (initialise s)) :=
      .of_empty rfl rfl (by rintro (h | h) <;> cases h)
    exact (advances_closed.readyRise _).events ((raise_operates _ (by decide) ..).events hempty)
  split
  · exact .of_empty rfl rfl fun _ => rfl
  · exact .of_empty rfl rfl fun _ => rfl

/-- The rise of READY after an event keeps the laws from a state in which a profile has just been installed, whatever
its stage. -/
theorem readyRise_raise_events (hraised : s.raised = []) (hrecords : s.records = []) {name : EventName}
    (hname : name ≠ .overflow) (who : Concerned) (w : Option (Fin 16)) (hi lo : Word) :
    EventsLaw (readyRise (raise name who w hi lo s)) := by
  have hrise : readyRise (raise name who w hi lo s) =
      readyRise (raise name who w hi lo { s with stage := .operating }) := by
    rw [raise_told, raise_told]
    rfl
  have hempty : EventsLaw { s with stage := .operating } :=
    .of_empty hraised hrecords (by rintro (h | h) <;> cases h)
  rw [hrise]
  exact (advances_closed.readyRise _).events ((raise_operates _ hname ..).events hempty)

theorem readyRise_events (hraised : s.raised = []) (hrecords : s.records = []) : EventsLaw (readyRise s) := by
  have hempty : EventsLaw { s with stage := .operating } :=
    .of_empty hraised hrecords (by rintro (h | h) <;> cases h)
  exact (advances_closed.readyRise { s with stage := .operating }).events hempty

/-- A profile is installed only where none was in force, so no event is held when the readers change. -/
theorem takeProfileWord_events (h : EventsLaw s) (hstage : s.stage = .profileRead) (w : Word) :
    EventsLaw (takeProfileWord w s) := by
  obtain ⟨hraised, hrecords⟩ := h.nothing_held (h.2.2.2 (.inr hstage))
  unfold takeProfileWord concludeProfile
  dsimp only
  split
  · exact h
  split
  · split
    · exact readyRise_events hraised hrecords
    · exact .of_empty hraised hrecords (by rintro (h | h) <;> cases h)
  · next reason item _ =>
    exact readyRise_raise_events (s := installProfile fallbackProfile (.rejected reason)
      { s with candidate := [], inFlight := none }) hraised hrecords (by decide) ..

theorem completeCycle_events (h : EventsLaw s) (p : Port) (a : Option Word) : EventsLaw (completeCycle p a s) := h

theorem useGrant_events (h : EventsLaw s) (r : Requester) (q : Request) : EventsLaw (useGrant r q s) := by
  cases r with
  | client p =>
    obtain ⟨a, u, hu, heq⟩ | heq := useClientGrant_cases p q s
    · rw [useGrant, heq]
      exact completeCycle_events (hu.events h) p a
    · rw [useGrant, heq]
      exact h
  | engine => exact h

theorem grantTo_events (h : EventsLaw s) (r : Requester) : EventsLaw (grantTo r s) := by
  cases r <;> exact h

theorem settleCycle_events (h : EventsLaw s) (p : Port) (kind : AccessKind) (x : Addr) :
    EventsLaw (settleCycle p kind x s) := by
  obtain ⟨a, u, hu, heq⟩ | ⟨-, a, heq⟩ | ⟨-, u, hu, heq, -⟩ := settleCycle_cases p kind x s
  · exact heq ▸ completeCycle_events (hu.events h) p a
  · exact heq ▸ h
  · exact heq ▸ hu.events h

theorem Effect.events (h : EventsLaw s) (heffect : Effect s t) : EventsLaw t := by
  cases heffect with
  | startsUp => exact startUp_events _
  | heldInReset | resetnFalls | supplyLost => exact .of_empty rfl rfl fun _ => rfl
  | fenceEntered => exact (enterFence_operates { s with pwrgood := false }).events h
  | fenceLeft =>
    exact (raise_operates { s with pwrgood := true } (name := .fenceLeft) (by decide) .part none 0#16
      s.absorbed).events h
  | waitEnds waits => exact ⟨h.1, h.2.1, h.2.2.1, fun _ => h.2.2.2 (.inl waits)⟩
  | profileWord w x stage => exact takeProfileWord_events h stage w
  | headerWord w => exact (advances_closed.takeHeaderWord s w).events h
  | checkWord w => exact (advances_closed.takeCheckWord s w).events h
  | loadWord w => exact (advances_closed.takeLoadWord s w).events h
  | granted r q => exact useGrant_events (grantTo_events h r) r q
  | writeDone p x d w =>
    exact ((spendAt_operates p ((s.writeWord x w).setInFlight none) x).trans (observe_operates p _ x d)).events h
  | engineWrote w x d v =>
    exact ((operates_closed.advanceNumber ((s.writeWord x v).setInFlight none) w).advances.trans
      (advances_closed.afterWrite _ w)).events h
  | engineVerified w x v => exact (advances_closed.afterReadBack (s.setInFlight none) w v).events h
  | engineTakes => exact (operates_closed.engineTake s).events h
  | cycleTaken p kind x gone =>
    exact settleCycle_events (s := s.setPort p (heldPort kind x gone (s.ports.get p))) h p kind x
  | stepTimerEnds p =>
    split
    · exact (countBreak_operates ..).events h
    · exact h
  | lockoutEnds p => exact (raise_operates (s.setSqr p Sqr.fresh) (by decide) ..).events h
  | idleTimerEnds p => exact (endSession_operates ..).events h
  | lifetimeEnds w => exact (endLease_operates ..).events h
  | arrives n rest front =>
    obtain ⟨⟨hraised, hrecords⟩, hraised', hrecords'⟩ := h
    rw [front] at hraised hraised'
    have hrest : EventsLaw { s with raised := rest } :=
      ⟨⟨fun m hm => hraised m (.tail n hm), hrecords⟩, fun m hm => hraised' m (.tail n hm), hrecords'⟩
    exact hrest.takeNotice (hraised n (.head rest)).1 (hraised' n (.head rest))
  | same | resetnMoves | pwrgoodMoves | readAnswered | holdoffEnds | cycleAbandoned | endingExit => exact h

end EventEffects

/-- Settles O7: events are told to the readers in force, a profile is installed where no event is held, and the arrival
and the take keep the record list in order. -/
theorem eventLawIsKept : Obligations.EventLawIsKept := by
  intro s t
  exact law_of_step (Law := EventsLaw) (Kept := EventsLaw) (fun _ _ h => h) (fun _ _ h _ => h)
    (fun _ _ h heffect => heffect.events h)

end Sys2Proof.Machine

/-! SUPPORT. The law of the client cycles and of their accesses at the memory port is kept by every effect (10 R181 to
R187, 01 R20). -/

namespace Sys2Proof.Machine

theorem onBoth_iff {P : Port → Prop} : onBoth P ↔ ∀ p, P p :=
  ⟨fun h p => by cases p <;> [exact h.1; exact h.2], fun h => ⟨h .a, h .b⟩⟩

/-- Port p has the access in flight. -/
def State.onMemory (s : State) (p : Port) : Prop := s.inFlight.map Access.holder = some (.client p)

/-- The cycle law and the upstream law of one port. -/
structure PortLaw (s : State) (p : Port) : Prop where
  idle : (s.ports.get p).state = .idle ↔ (s.ports.get p).cycle = none
  held : (s.ports.get p).state = .held ↔ (s.waiting.client.get p).isSome = true ∨ s.onMemory p
  single : ¬ ((s.waiting.client.get p).isSome = true ∧ s.onMemory p)
  waits : ∀ c q, (s.ports.get p).cycle = some c → s.waiting.client.get p = some q → q.kind = c.kind ∧ q.addr = c.addr
  flies : ∀ c a, (s.ports.get p).cycle = some c → s.inFlight = some a → a.holder = .client p →
    a.kind = c.kind ∧ a.addr = c.addr
  upstream : ∀ d x, s.waiting.client.get p = some { kind := .write d, addr := x } →
    s.stage = .operating ∧ s.inJournal x = false ∧ s.admits p (s.windowOf x) = true

theorem portLaws_iff (s : State) : CycleLaw s ∧ UpstreamLaw s ↔ ∀ p, PortLaw s p := by
  simp only [CycleLaw, UpstreamLaw, onBoth_iff, CycleLawOf, State.forwarding, Bool.or_eq_true, decide_eq_true_eq]
  constructor
  · rintro ⟨hcycle, hupstream⟩ p
    obtain ⟨⟨hidle, hheld, hsingle⟩, hmatch⟩ := hcycle p
    exact ⟨hidle, hheld, hsingle, fun c q hc => (hmatch c hc).1 q, fun c a hc => (hmatch c hc).2 a, hupstream p⟩
  · intro h
    exact ⟨fun p => ⟨⟨(h p).idle, (h p).held, (h p).single⟩,
      fun c hc => ⟨fun q => (h p).waits c q hc, fun a => (h p).flies c a hc⟩⟩, fun p => (h p).upstream⟩

theorem onMemory_iff {s : State} {p : Port} : s.onMemory p ↔ ∃ a, s.inFlight = some a ∧ a.holder = .client p := by
  simp [State.onMemory, Option.map_eq_some_iff]

theorem onMemory_of_inFlight {s : State} {p : Port} {kind : AccessKind} {x : Addr}
    (h : s.inFlight = some { holder := .client p, kind := kind, addr := x }) : s.onMemory p :=
  onMemory_iff.mpr ⟨_, h, rfl⟩

theorem not_onMemory_of_holder {s : State} {p : Port} {a : Access} (h : s.inFlight = some a)
    (hholder : a.holder ≠ .client p) : ¬ s.onMemory p := by
  simp [State.onMemory, h, hholder]

theorem not_onMemory_of_free {s : State} (h : s.inFlight = none) (p : Port) : ¬ s.onMemory p := by
  simp [State.onMemory, h]

theorem admits_congr {s t : State} (h : t.active = s.active) (p : Port) (x : Addr) :
    t.inJournal x = s.inJournal x ∧ t.admits p (t.windowOf x) = s.admits p (s.windowOf x) := by
  have hwindow : t.window = s.window := by
    funext w
    rw [State.window, State.window, h]
  constructor
  · rw [State.inJournal, State.inJournal, State.journalEntries, State.journalEntries, h]
  · simp only [State.admits, State.windowOf, hwindow]

namespace PortLaw

variable {s t : State} {p : Port}

theorem not_held (h : PortLaw s p) (hstate : (s.ports.get p).state ≠ .held) :
    s.waiting.client.get p = none ∧ ¬ s.onMemory p := by
  have := mt h.held.mpr hstate
  simp only [not_or, Bool.not_eq_true, Option.isSome_eq_false_iff, Option.isNone_iff_eq_none] at this
  exact this

theorem cycle_of_held (h : PortLaw s p) (hstate : (s.ports.get p).state = .held) :
    ∃ c, (s.ports.get p).cycle = some c :=
  Option.ne_none_iff_exists'.mp fun hnone => by
    rw [h.idle.mpr hnone] at hstate
    cases hstate

/-- A port whose cycle, request and access are as before, with the same profile in operation. -/
theorem congr (h : PortLaw s p) (hport : t.ports.get p = s.ports.get p)
    (hclient : t.waiting.client.get p = s.waiting.client.get p)
    (hflight : ∀ a : Access, a.holder = .client p → (t.inFlight = some a ↔ s.inFlight = some a))
    (hstage : s.stage = .operating → t.stage = .operating ∧ t.active = s.active) : PortLaw t p := by
  have hmemory : t.onMemory p ↔ s.onMemory p := by
    simp only [onMemory_iff]
    exact exists_congr fun a => and_congr_left fun ha => hflight a ha
  refine ⟨by rw [hport]; exact h.idle, ?_, ?_, ?_, ?_, ?_⟩
  · rw [hport, hclient, hmemory]
    exact h.held
  · rw [hclient, hmemory]
    exact h.single
  · rw [hport, hclient]
    exact h.waits
  · rw [hport]
    exact fun c a hc ha hholder => h.flies c a hc ((hflight a hholder).mp ha) hholder
  · rw [hclient]
    intro d x hwait
    obtain ⟨hoperating, hjournal, hadmits⟩ := h.upstream d x hwait
    obtain ⟨hstage, hactive⟩ := hstage hoperating
    obtain ⟨hj, ha⟩ := admits_congr hactive p x
    exact ⟨hstage, hj.trans hjournal, ha.trans hadmits⟩

/-- A port that neither waits nor has the access in flight. -/
theorem of_free (hidle : (s.ports.get p).state = .idle ↔ (s.ports.get p).cycle = none)
    (hheld : (s.ports.get p).state ≠ .held) (hclient : s.waiting.client.get p = none) (hmemory : ¬ s.onMemory p) :
    PortLaw s p := by
  refine ⟨hidle, ?_, ?_, ?_, ?_, ?_⟩
  · simp [hheld, hclient, hmemory]
  · simp [hmemory]
  · simp [hclient]
  · exact fun c a _ ha hholder => absurd (onMemory_iff.mpr ⟨a, ha, hholder⟩) hmemory
  · simp [hclient]

theorem steady (h : PortLaw s p) (hst : Steady s t) : PortLaw t p :=
  h.congr (by rw [hst.ports]) (by rw [hst.client]) (fun a _ => by rw [hst.inFlight])
    fun hs => ⟨hst.stage.trans hs, hst.active⟩

/-- The access of another requester comes to its end. -/
theorem access_done (h : PortLaw s p) {b : Access} (hflight : s.inFlight = some b) (hne : b.holder ≠ .client p) :
    PortLaw { s with inFlight := none } p := by
  refine h.congr rfl rfl (fun a ha => ?_) fun hs => ⟨hs, rfl⟩
  rw [hflight]
  exact iff_of_false nofun fun hab => hne (by rw [Option.some.inj hab, ha])

end PortLaw

/-- Steps that leave the ports, the client requests and the access in flight keep the laws of a port. -/
theorem Advances.portLaw {s t : State} {p : Port} (hadv : Advances s t) (h : PortLaw s p) : PortLaw t p :=
  h.congr (by rw [hadv.ports]) (by rw [hadv.client]) (fun a _ => by rw [hadv.inFlight])
    fun hs => ⟨hadv.stage.elim (fun h => h.trans hs) id, hadv.active⟩

theorem Operates.portLaw {s t : State} {p : Port} (h : Operates s t) : PortLaw s p → PortLaw t p :=
  h.advances.portLaw

/-! ### Completed cycles -/

section Completed

variable {s : State} {p : Port}

/-- A completed port holds a record exactly outside IDLE, and is not HELD. -/
theorem completedPort_state {c : ClientPort} {y : Cycle} (hcycle : c.cycle = some y) (a : Option Word) :
    ((completedPort a c).state = .idle ↔ (completedPort a c).cycle = none) ∧ (completedPort a c).state ≠ .held := by
  rw [completedPort_closed a c y hcycle, closedPort]
  split <;> simp

theorem PortLaw.complete (hcycle : (s.ports.get p).cycle ≠ none) (hclient : s.waiting.client.get p = none)
    (hmemory : ¬ s.onMemory p) (a : Option Word) : PortLaw (completeCycle p a s) p := by
  obtain ⟨y, hy⟩ := Option.ne_none_iff_exists'.mp hcycle
  obtain ⟨hidle, hheld⟩ := completedPort_state hy a
  have hport : (completeCycle p a s).ports.get p = completedPort a (s.ports.get p) := by
    simp [completeCycle]
  exact .of_free (by rwa [hport]) (by rwa [hport]) hclient hmemory

theorem PortLaw.complete_other (h : PortLaw s p) {q : Port} (hne : p ≠ q) (a : Option Word) :
    PortLaw (completeCycle q a s) p :=
  h.congr (by simp [completeCycle, PerPort_get_set, hne]) rfl (fun _ _ => Iff.rfl) fun hs => ⟨hs, rfl⟩

/-- A change of another port's cycle and request. -/
theorem PortLaw.request_other (h : PortLaw s p) {q : Port} (hne : p ≠ q) (r : Option Request) :
    PortLaw (s.setClientRequest q r) p :=
  h.congr rfl (by simp [PerPort_get_set, hne]) (fun _ _ => Iff.rfl) fun hs => ⟨hs, rfl⟩

theorem PortLaw.port_other (h : PortLaw s p) {q : Port} (hne : p ≠ q) (c : ClientPort) :
    PortLaw (s.setPort q c) p :=
  h.congr (by simp [PerPort_get_set, hne]) rfl (fun _ _ => Iff.rfl) fun hs => ⟨hs, rfl⟩

end Completed

/-! ### Effects at the ports -/

section PortEffects

variable {s t : State}

theorem initialise_portLaw (s : State) (p : Port) : PortLaw (initialise s) p := by
  cases p <;> exact .of_free (iff_of_true rfl rfl) CycleState.noConfusion rfl (not_onMemory_of_free rfl _)

theorem startUp_portLaw (s : State) (p : Port) : PortLaw (startUp s) p := by
  have hfresh := initialise_portLaw s p
  unfold startUp
  dsimp only
  split
  · refine (advances_closed.readyRise _).portLaw ((raise_operates _ (by decide) ..).portLaw ?_)
    exact hfresh.congr rfl rfl (fun _ _ => Iff.rfl) (fun hs => Stage.noConfusion hs)
  split
  · exact hfresh.congr rfl rfl (fun _ _ => Iff.rfl) (fun hs => Stage.noConfusion hs)
  · exact hfresh.congr rfl rfl (fun _ _ => Iff.rfl) (fun hs => Stage.noConfusion hs)

theorem stoppedPort_state {c : ClientPort} (hidle : c.state = .idle ↔ c.cycle = none) :
    ((stoppedPort c).state = .idle ↔ (stoppedPort c).cycle = none) ∧ (stoppedPort c).state ≠ .held := by
  unfold stoppedPort
  dsimp only
  split
  · next y _ hcycle => exact completedPort_state hcycle _
  · next hnot =>
    refine ⟨hidle, fun hheld => ?_⟩
    obtain hnone | ⟨y, hy⟩ := Option.eq_none_or_eq_some c.cycle
    · rw [hidle.mpr hnone] at hheld
      cases hheld
    · exact hnot y hheld hy

theorem finishWrite_ports (left : Word → Word → Word) (s : State) : (finishWrite left s).ports = s.ports := by
  unfold finishWrite
  split <;> rfl

theorem endActivity_ports (left : Word → Word → Word) (s : State) (p : Port) :
    (endActivity (finishWrite left s)).ports.get p = stoppedPort (s.ports.get p) := by
  unfold endActivity
  rw [finishWrite_ports]
  cases p <;> rfl

theorem endActivity_portLaw {p : Port} (h : PortLaw s p) (left : Word → Word → Word) :
    PortLaw (endActivity (finishWrite left s)) p := by
  obtain ⟨hidle, hheld⟩ := stoppedPort_state h.idle
  rw [← endActivity_ports left s p] at hidle hheld
  exact .of_free hidle hheld (by cases p <;> rfl) (not_onMemory_of_free rfl p)

theorem takeProfileWord_portLaw {p : Port} (h : PortLaw s p) (hstage : s.stage = .profileRead) (w : Word) {x : Addr}
    (hflight : s.inFlight = some { holder := .engine, kind := .read, addr := x }) :
    PortLaw (takeProfileWord w s) p := by
  have hnot {P : Prop} (hs : s.stage = .operating) : P := Stage.noConfusion (hstage.symm.trans hs)
  have hread {u : State} (hport : u.ports = s.ports) (hclient : u.waiting.client = s.waiting.client)
      (hfree : u.inFlight = none) : PortLaw u p :=
    (h.access_done hflight Requester.noConfusion).congr (by rw [hport]) (by rw [hclient])
      (fun a _ => by rw [hfree]) hnot
  unfold takeProfileWord concludeProfile
  dsimp only
  split
  · exact hread rfl rfl rfl
  split
  · split
    · exact (advances_closed.readyRise _).portLaw (hread rfl rfl rfl)
    · exact hread rfl rfl rfl
  · next reason item _ =>
    exact (advances_closed.readyRise _).portLaw ((raise_operates _ (by decide) ..).portLaw
      (hread (u := installProfile fallbackProfile (.rejected reason) { s with candidate := [], inFlight := none })
        rfl rfl rfl))

theorem nextGrant_mem {r : Requester} {q : Request} (h : s.nextGrant = some (r, q)) : s.waiting.of r = some q := by
  obtain ⟨r', -, hr⟩ := List.exists_of_findSome?_eq_some h
  obtain ⟨q', hq, heq⟩ := Option.map_eq_some_iff.mp hr
  cases heq
  exact hq

theorem grantTo_portLaw_other {p : Port} (h : PortLaw s p) {r : Requester} (hne : r ≠ .client p) :
    PortLaw (grantTo r s) p := by
  cases r with
  | client q =>
    have hpq : p ≠ q := fun hpq => hne (congrArg Requester.client hpq.symm)
    exact (h.request_other hpq none).congr rfl rfl (fun _ _ => Iff.rfl) fun hs => ⟨hs, rfl⟩
  | engine => exact h.congr rfl rfl (fun _ _ => Iff.rfl) fun hs => ⟨hs, rfl⟩

/-- An access that another requester begins at a free memory port. -/
theorem beginAccess_portLaw_other {p : Port} (h : PortLaw s p) (hfree : s.inFlight = none) {r : Requester}
    (hne : r ≠ .client p) (q : Request) : PortLaw (beginAccess r q s) p :=
  h.congr rfl rfl (fun a ha => by
    rw [hfree]
    exact iff_of_false (fun hra => hne (by rw [← ha, ← Option.some.inj hra])) nofun) fun hs => ⟨hs, rfl⟩

theorem useGrant_portLaw_other {p : Port} (h : PortLaw s p) (hfree : s.inFlight = none) {r : Requester}
    (hne : r ≠ .client p) (q : Request) : PortLaw (useGrant r q s) p := by
  cases r with
  | client o =>
    have hpo : p ≠ o := fun hpo => hne (congrArg Requester.client hpo.symm)
    obtain ⟨a, u, hu, heq⟩ | heq := useClientGrant_cases o q s
    · rw [useGrant, heq]
      exact (h.steady hu).complete_other hpo a
    · rw [useGrant, heq]
      exact beginAccess_portLaw_other h hfree hne q
  | engine =>
    have hmarked :=
      (operates_closed.setEngine s { s.engine with word := s.engine.word.map (grantedWord q.kind) }).portLaw h
    exact beginAccess_portLaw_other hmarked hfree hne q

/-- The granted port itself: its cycle completes, or its access begins. -/
theorem useGrant_portLaw_own {p : Port} (h : PortLaw s p) (hfree : s.inFlight = none) {q : Request}
    (hwait : s.waiting.client.get p = some q) : PortLaw (useGrant (.client p) q (grantTo (.client p) s)) p := by
  have hheld : (s.ports.get p).state = .held := h.held.mpr (.inl (by simp [hwait]))
  obtain ⟨c, hc⟩ := h.cycle_of_held hheld
  have hclient : (grantTo (.client p) s).waiting.client.get p = none := by
    simp [grantTo, withdraw]
  obtain ⟨a, u, hu, heq⟩ | heq := useClientGrant_cases p q (grantTo (.client p) s)
  · rw [useGrant, heq]
    refine .complete ?_ (by rw [hu.client, hclient]) (not_onMemory_of_free (by rw [hu.inFlight]; exact hfree) p) a
    rw [hu.ports]
    exact fun hnone => by
      rw [show (grantTo (.client p) s).ports.get p = s.ports.get p from rfl, hc] at hnone
      cases hnone
  · rw [useGrant, heq]
    have hflies : (beginAccess (.client p) q (grantTo (.client p) s)).onMemory p := rfl
    have hclient' : (beginAccess (.client p) q (grantTo (.client p) s)).waiting.client.get p = none := hclient
    refine ⟨h.idle, iff_of_true hheld (.inr hflies), by simp [hclient'], by simp [hclient'], ?_, by simp [hclient']⟩
    intro c' a hc' ha _
    cases Option.some.inj ha
    exact h.waits c' q hc' hwait

theorem settleCycle_portLaw_other {p q : Port} (h : PortLaw s p) (hne : p ≠ q) (kind : AccessKind) (x : Addr) :
    PortLaw (settleCycle q kind x s) p := by
  obtain ⟨a, u, hu, heq⟩ | ⟨-, a, heq⟩ | ⟨-, u, hu, heq, -⟩ := settleCycle_cases q kind x s
  · exact heq ▸ (h.steady hu).complete_other hne a
  · exact heq ▸ (h.port_other hne _).complete_other hne a
  · exact heq ▸ (h.steady hu).request_other hne _

theorem heldPort_cycle (kind : AccessKind) (x : Addr) (gone : Bool) (c : ClientPort) :
    (heldPort kind x gone c).cycle = some { kind := kind, addr := x, answer := none, abandoned := gone } := rfl

/-- A port that takes a cycle: the cycle completes, or is HELD and waits for the memory port. -/
theorem settleCycle_portLaw_own {p : Port} (h : PortLaw s p) (hidle : (s.ports.get p).state = .idle)
    (kind : AccessKind) (x : Addr) (gone : Bool) :
    PortLaw (settleCycle p kind x (s.setPort p (heldPort kind x gone (s.ports.get p)))) p := by
  obtain ⟨hclient, hmemory⟩ := h.not_held (by rw [hidle]; decide)
  have hport : (s.setPort p (heldPort kind x gone (s.ports.get p))).ports.get p =
      heldPort kind x gone (s.ports.get p) := by simp
  obtain ⟨a, u, hu, heq⟩ | ⟨-, a, heq⟩ | ⟨hstage, u, hu, heq, hwrite⟩ :=
    settleCycle_cases p kind x (s.setPort p (heldPort kind x gone (s.ports.get p)))
  · rw [heq]
    refine .complete (by rw [hu.ports, hport]; simp [heldPort]) (by rw [hu.client]; exact hclient) ?_ a
    rw [State.onMemory, hu.inFlight]
    exact hmemory
  · rw [heq]
    exact PortLaw.complete (s := countEarly p (s.setPort p (heldPort kind x gone (s.ports.get p))))
      (by simp [countEarly, heldPort]) hclient hmemory a
  · rw [heq]
    have hflight : ¬ (requestClient p kind x u).onMemory p := by
      rw [State.onMemory, show (requestClient p kind x u).inFlight = u.inFlight from rfl, hu.inFlight]
      exact hmemory
    have hwait : (requestClient p kind x u).waiting.client.get p = some { kind := kind, addr := x } := by
      simp [requestClient]
    have hheld : (requestClient p kind x u).ports.get p = heldPort kind x gone (s.ports.get p) :=
      (congrArg (·.get p) hu.ports).trans hport
    refine ⟨?_, iff_of_true ?_ (.inl ?_), fun hboth => hflight hboth.2, ?_, ?_, ?_⟩
    · rw [hheld]
      simp [heldPort]
    · rw [hheld]
      rfl
    · simp [hwait]
    · intro c q hc hq
      rw [hheld, heldPort_cycle] at hc
      rw [hwait] at hq
      cases hc
      cases hq
      exact ⟨rfl, rfl⟩
    · exact fun c a _ ha hholder => absurd (onMemory_iff.mpr ⟨a, ha, hholder⟩) hflight
    · intro d y hd
      rw [hwait] at hd
      cases hd
      obtain ⟨hj, ha⟩ := admits_congr (s := s.setPort p (heldPort (.write d) x gone (s.ports.get p))) (t := u)
        hu.active p x
      obtain ⟨hjournal, hadmits⟩ := hwrite d rfl
      exact ⟨hu.stage.trans hstage, hj.trans hjournal, ha.trans hadmits⟩

theorem access_done_other {p q : Port} (h : PortLaw s p) (hne : p ≠ q) {kind : AccessKind} {x : Addr}
    (hflight : s.inFlight = some { holder := .client q, kind := kind, addr := x }) :
    PortLaw (s.setInFlight none) p :=
  h.access_done hflight fun hq => hne (Requester.client.inj hq).symm

/-- The port whose access comes to its end, with its cycle complete. -/
theorem access_done_own {p : Port} (h : PortLaw s p) {kind : AccessKind} {x : Addr}
    (hflight : s.inFlight = some { holder := .client p, kind := kind, addr := x }) {u : State}
    (hu : Operates { s with memory := u.memory, inFlight := none } u) (a : Option Word) :
    PortLaw (completeCycle p a u) p := by
  have hmemory := onMemory_of_inFlight hflight
  obtain ⟨c, hc⟩ := h.cycle_of_held (h.held.mpr (.inr hmemory))
  have hclient : s.waiting.client.get p = none :=
    Option.not_isSome_iff_eq_none.mp fun hsome => h.single ⟨hsome, hmemory⟩
  refine .complete ?_ (by rw [hu.client]; exact hclient) (not_onMemory_of_free hu.inFlight p) a
  rw [hu.ports]
  simp [hc]

theorem Effect.portLaw (h : ∀ p, PortLaw s p) (heffect : Effect s t) (p : Port) : PortLaw t p := by
  cases heffect with
  | startsUp => exact startUp_portLaw _ p
  | heldInReset => exact initialise_portLaw _ p
  | resetnFalls left | supplyLost left =>
    exact (endActivity_portLaw (h p) left).congr rfl rfl (fun _ _ => Iff.rfl) (fun hs => Stage.noConfusion hs)
  | fenceEntered =>
    have hlevel : PortLaw { s with pwrgood := false, fence := .fenced } p :=
      (h p).congr rfl rfl (fun _ _ => Iff.rfl) fun hs => ⟨hs, rfl⟩
    exact (enterFence_operates { s with pwrgood := false }).portLaw hlevel
  | fenceLeft =>
    have hlevel : PortLaw { s with pwrgood := true } p :=
      (h p).congr rfl rfl (fun _ _ => Iff.rfl) fun hs => ⟨hs, rfl⟩
    have hleft := (raise_operates { s with pwrgood := true } (name := .fenceLeft) (by decide) .part none
      0#16 s.absorbed).portLaw hlevel
    exact hleft.congr rfl rfl (fun _ _ => Iff.rfl) fun hs => ⟨hs, rfl⟩
  | waitEnds waits =>
    exact (h p).congr rfl rfl (fun _ _ => Iff.rfl) fun hs => Stage.noConfusion (waits.symm.trans hs)
  | profileWord w x stage reads => exact takeProfileWord_portLaw (h p) stage w reads
  | headerWord w x phase reads =>
    exact (advances_closed.takeHeaderWord s w).portLaw ((h p).access_done reads Requester.noConfusion)
  | checkWord w x phase reads =>
    exact (advances_closed.takeCheckWord s w).portLaw ((h p).access_done reads Requester.noConfusion)
  | loadWord w x phase reads =>
    exact (advances_closed.takeLoadWord s w).portLaw ((h p).access_done reads Requester.noConfusion)
  | granted r q free next =>
    by_cases hr : r = .client p
    · subst hr
      exact useGrant_portLaw_own (h p) free (nextGrant_mem next)
    · have hfree : (grantTo r s).inFlight = none := by cases r <;> exact free
      exact useGrant_portLaw_other (grantTo_portLaw_other (h p) hr) hfree hr q
  | readAnswered q x w reads =>
    by_cases hpq : p = q
    · subst hpq
      exact access_done_own (h p) reads (.refl _) _
    · exact (access_done_other (h p) hpq reads).complete_other hpq _
  | writeDone q x d w writes =>
    have hops := (spendAt_operates q ((s.writeWord x w).setInFlight none) x).trans (observe_operates q _ x d)
    have hmemory := hops.memory
    by_cases hpq : p = q
    · subst hpq
      refine access_done_own (h p) writes ?_ none
      rw [hmemory]
      exact hops
    · have hwritten : PortLaw (s.writeWord x w) p := (h p).congr rfl rfl (fun _ _ => Iff.rfl) fun hs => ⟨hs, rfl⟩
      exact (hops.portLaw (access_done_other hwritten hpq writes)).complete_other hpq none
  | engineWrote w x d v writes =>
    have hwritten : PortLaw (s.writeWord x v) p := (h p).congr rfl rfl (fun _ _ => Iff.rfl) fun hs => ⟨hs, rfl⟩
    exact ((operates_closed.advanceNumber ((s.writeWord x v).setInFlight none) w).advances.trans
      (advances_closed.afterWrite _ w)).portLaw (hwritten.access_done writes Requester.noConfusion)
  | engineVerified w x v reads =>
    exact (advances_closed.afterReadBack (s.setInFlight none) w v).portLaw
      ((h p).access_done reads Requester.noConfusion)
  | engineTakes => exact (operates_closed.engineTake s).portLaw (h p)
  | cycleTaken q kind x gone free =>
    by_cases hpq : p = q
    · subst hpq
      exact settleCycle_portLaw_own (h p) free.2 kind x gone
    · exact settleCycle_portLaw_other ((h p).port_other hpq _) hpq kind x
  | stepTimerEnds q =>
    split
    · exact (countBreak_operates ..).portLaw (h p)
    · exact (setSqr_operates ..).portLaw (h p)
  | lockoutEnds q => exact ((setSqr_operates s q _).trans (raise_operates _ (by decide) ..)).portLaw (h p)
  | idleTimerEnds q => exact (endSession_operates ..).portLaw (h p)
  | lifetimeEnds w => exact (endLease_operates ..).portLaw (h p)
  | holdoffEnds w => exact (setLease_operates ..).portLaw (h p)
  | cycleAbandoned q held =>
    by_cases hpq : p = q
    · subst hpq
      obtain ⟨c, hc⟩ := (h p).cycle_of_held held
      have hport : (s.setPort p (abandonedPort (s.ports.get p))).ports.get p = abandonedPort (s.ports.get p) := by simp
      refine ⟨?_, ?_, (h p).single, ?_, ?_, (h p).upstream⟩
      · rw [hport]
        simp [abandonedPort, (h p).idle]
      · rw [hport]
        exact (h p).held
      · rw [hport]
        intro c' q hc' hq
        obtain rfl : { c with abandoned := true } = c' := by simpa [abandonedPort, hc] using hc'
        exact (h p).waits c q hc hq
      · rw [hport]
        intro c' a hc' ha hholder
        obtain rfl : { c with abandoned := true } = c' := by simpa [abandonedPort, hc] using hc'
        exact (h p).flies c a hc ha hholder
    · exact (h p).port_other hpq _
  | endingExit q ending =>
    by_cases hpq : p = q
    · subst hpq
      obtain ⟨hclient, hmemory⟩ := (h p).not_held (by rw [ending]; decide)
      exact .of_free (by simp) (by simp) hclient hmemory
    · exact (h p).port_other hpq _
  | arrives n rest =>
    rw [takeNotice_frame]
    exact (h p).congr rfl rfl (fun _ _ => Iff.rfl) fun hs => ⟨hs, rfl⟩
  | same => exact h p
  | resetnMoves | pwrgoodMoves => exact (h p).congr rfl rfl (fun _ _ => Iff.rfl) fun hs => ⟨hs, rfl⟩

end PortEffects

/-- Settles O10: at each port a cycle is taken, completed, granted or abandoned, and every other effect leaves it and
its access as they were. -/
theorem cycleLawIsKept : Obligations.CycleLawIsKept := by
  intro s t hlaw hstep
  rw [portLaws_iff] at hlaw ⊢
  have hcongr (s u : State) (h : ∀ p, PortLaw s p) (hports : u.ports = s.ports) (hwaiting : u.waiting = s.waiting)
      (hflight : u.inFlight = s.inFlight) (hstage : u.stage = s.stage) (hactive : u.active = s.active) (p : Port) :
      PortLaw u p :=
    (h p).congr (by rw [hports]) (by rw [hwaiting]) (fun _ _ => by rw [hflight]) fun hs => ⟨hstage.trans hs, hactive⟩
  exact law_of_step (Law := fun s => ∀ p, PortLaw s p) (Kept := fun s => ∀ p, PortLaw s p)
    (fun s _ h => hcongr s _ h rfl rfl rfl rfl rfl)
    (fun s _ h _ => hcongr s _ h rfl rfl rfl rfl rfl) (fun _ _ h heffect => heffect.portLaw h) hlaw hstep

end Sys2Proof.Machine

/-! SUPPORT. Leases window by window, and the laws of the fence, the sessions, their response queues and the leases
over the operations of chapters 2 to 6 (03 R65, 04 R68 to R78, 08 R157). -/

namespace Sys2Proof.Machine

/-! ### Leases, window by window -/

section Lease

variable (s : State) (p : Port) (w v : Fin 16)

theorem setLease_lease (l : Lease) : (s.setLease w l).lease v = if v = w then l else s.lease v := by
  rw [State.lease, setLease_leases, Fin.getElem_fin, Vector.getElem_set]
  exact if_congr ⟨fun h => Fin.ext h.symm, fun h => congrArg Fin.val h.symm⟩ rfl rfl

theorem raise_lease (n : EventName) (who : Concerned) (x : Option (Fin 16)) (hi lo : Word) :
    (raise n who x hi lo s).lease v = s.lease v := by
  rw [raise_frame]
  rfl

theorem raise_window (n : EventName) (who : Concerned) (x : Option (Fin 16)) (hi lo : Word) :
    (raise n who x hi lo s).window v = s.window v := by
  rw [raise_frame]
  rfl

theorem afterLease_ne_leased (x : Window) (r : LeaseRecord) : afterLease x ≠ .leased r := by
  unfold afterLease
  split <;> exact Lease.noConfusion

variable {s p w}

theorem leasedTo_iff : s.leasedTo w p = true ↔ ∃ r, s.lease w = .leased r ∧ r.holder = p := by
  rw [State.leasedTo, decide_eq_true_iff]
  cases s.lease w <;> simp [leaseHolder]

theorem leasedTo_eq_false : s.leasedTo w p = false ↔ ∀ r, s.lease w = .leased r → r.holder ≠ p := by
  rw [← Bool.not_eq_true, leasedTo_iff]
  simp

/-- The end of a lease that a port holds: its window is CLOSED or in HOLDOFF, and no other window changes. -/
theorem endLease_lease (h : s.leasedTo w p = true) (c : LeaseCause) :
    (endLease w c s).lease v = if v = w then afterLease (s.window w) else s.lease v := by
  obtain ⟨r, hr, -⟩ := leasedTo_iff.mp h
  rw [endLease_leased w c s r hr, raise_lease, setLease_lease]

theorem endLeaseOf_lease (c : LeaseCause) :
    (endLeaseOf p c s w).lease v = if v = w ∧ s.leasedTo w p = true then afterLease (s.window w) else s.lease v := by
  unfold endLeaseOf
  split
  · next h =>
    rw [endLease_lease v h]
    exact if_congr (by simp [h]) rfl rfl
  · next h => simp [h]

theorem endLeaseOf_window (c : LeaseCause) : (endLeaseOf p c s w).window v = s.window v := by
  rw [endLeaseOf_frame]
  rfl

/-- Ending a port's leases on some windows touches exactly those of them that are LEASED to the port. -/
theorem foldl_endLeaseOf_lease (c : LeaseCause) (ws : List (Fin 16)) (s : State) :
    (ws.foldl (endLeaseOf p c) s).lease v =
      if v ∈ ws ∧ s.leasedTo v p = true then afterLease (s.window v) else s.lease v := by
  induction ws generalizing s with
  | nil => simp
  | cons x rest ih =>
    have hleased : (endLeaseOf p c s x).leasedTo v p = true ↔ v ≠ x ∧ s.leasedTo v p = true := by
      rw [leasedTo_iff, leasedTo_iff, endLeaseOf_lease]
      by_cases hvx : v = x
      · subst hvx
        by_cases hv : s.leasedTo v p = true
        · simp [hv, afterLease_ne_leased]
        · simpa [hv] using leasedTo_eq_false.mp (by simpa using hv)
      · simp [hvx]
    rw [List.foldl_cons, ih, endLeaseOf_lease, endLeaseOf_window]
    by_cases hvx : v = x
    · subst hvx
      by_cases hv : s.leasedTo v p = true <;> simp [hv, hleased]
    · simp [hvx, hleased]

/-- The end of a port's session ends every lease that it holds, and no other (04 R78). -/
theorem endLeasesOf_lease (c : LeaseCause) (s : State) : (endLeasesOf p c s).lease v =
    if s.leasedTo v p = true then afterLease (s.window v) else s.lease v := by
  rw [endLeasesOf, foldl_endLeaseOf_lease]
  simp [mem_allWindows]

end Lease

/-- What a unit spent comes to: nothing for another than the holder, one unit of a lease that goes on, or the end of
the lease whose budget it takes to 0 (04 R72 to R74). -/
theorem spendUnit_cases (p : Port) (w : Fin 16) (s : State) :
    spendUnit p w s = s ∨ ∃ r, s.lease w = .leased r ∧ r.holder = p ∧
      ((spentLease r).budget ≠ some 0#16 ∧ spendUnit p w s = s.setLease w (.leased (spentLease r)) ∨
        (spentLease r).budget = some 0#16 ∧ spendUnit p w s =
          raise .leaseEnded (.port p) (some w) (leaseCauseCode .budget) (spentLease r).count
            (s.setLease w (afterLease (s.window w)))) := by
  cases hl : s.lease w with
  | closed => exact .inl (by simp only [spendUnit, hl])
  | holdoff ms => exact .inl (by simp only [spendUnit, hl])
  | leased r =>
    by_cases hholder : r.holder = p
    · refine .inr ⟨r, rfl, hholder, ?_⟩
      by_cases hbudget : (spentLease r).budget = some 0#16
      · refine .inr ⟨hbudget, ?_⟩
        have hspent : (s.setLease w (.leased (spentLease r))).lease w = .leased (spentLease r) := by
          rw [setLease_lease, if_pos rfl]
        simp only [spendUnit, hl, if_pos hholder, if_pos hbudget]
        rw [endLease_leased w .budget _ _ hspent, show (spentLease r).holder = p from hholder]
        congr 1
        simp [State.setLease, State.window, State.active]
      · exact .inl ⟨hbudget, by simp only [spendUnit, hl, if_pos hholder, if_neg hbudget]⟩
    · exact .inl (by simp only [spendUnit, hl, if_neg hholder])

/-! ### Calm steps -/

/-- `t` keeps the recognizers, the leases and the profile of `s`, the sessions with their keys, lets no transaction
newly stage, and moves the stage and the fence at most as READY rises. -/
structure Calm (s t : State) : Prop where
  sqr : t.sqr = s.sqr
  leases : t.leases = s.leases
  profile : t.profile = s.profile
  pwrgood : t.pwrgood = s.pwrgood
  absorbed : t.absorbed = s.absorbed
  rise : t.stage = s.stage ∧ t.fence = s.fence ∨
    t.stage = .operating ∧ t.fence = if s.pwrgood then s.fence else .fenced
  key : ∀ p, (t.sessions.get p).map Session.key = (s.sessions.get p).map Session.key
  responses : ∀ p, (∀ x, s.sessions.get p = some x → x.responses.length ≤ Config.responseCapacity) →
    ∀ x, t.sessions.get p = some x → x.responses.length ≤ Config.responseCapacity
  staging : ∀ p, stages (t.txns.get p).state = true → stages (s.txns.get p).state = true

namespace Calm

variable {s t u : State}

/-- A step that leaves all these fields as they were. -/
theorem of_fields (hsqr : t.sqr = s.sqr) (hleases : t.leases = s.leases) (hprofile : t.profile = s.profile)
    (hpwrgood : t.pwrgood = s.pwrgood) (habsorbed : t.absorbed = s.absorbed) (hstage : t.stage = s.stage)
    (hfence : t.fence = s.fence) (hsessions : t.sessions = s.sessions) (htxns : t.txns = s.txns) : Calm s t where
  sqr := hsqr
  leases := hleases
  profile := hprofile
  pwrgood := hpwrgood
  absorbed := habsorbed
  rise := .inl ⟨hstage, hfence⟩
  key p := by rw [hsessions]
  responses p h := by rwa [hsessions]
  staging p := by rw [htxns]; exact id

theorem refl (s : State) : Calm s s := of_fields rfl rfl rfl rfl rfl rfl rfl rfl rfl

theorem trans (h : Calm s t) (k : Calm t u) : Calm s u where
  sqr := k.sqr.trans h.sqr
  leases := k.leases.trans h.leases
  profile := k.profile.trans h.profile
  pwrgood := k.pwrgood.trans h.pwrgood
  absorbed := k.absorbed.trans h.absorbed
  rise := by
    obtain ⟨kstage, kfence⟩ | ⟨kstage, kfence⟩ := k.rise
    · rw [kstage, kfence]
      exact h.rise
    · refine .inr ⟨kstage, ?_⟩
      rw [kfence, h.pwrgood]
      obtain ⟨-, hfence⟩ | ⟨-, hfence⟩ := h.rise
      · rw [hfence]
      · rw [hfence]
        split <;> rfl
  key p := (k.key p).trans (h.key p)
  responses p hs := k.responses p (h.responses p hs)
  staging p ht := h.staging p (k.staging p ht)

theorem active (h : Calm s t) : t.active = s.active := congrArg (·.getD noProfile) h.profile

theorem window (h : Calm s t) (w : Fin 16) : t.window w = s.window w := by
  rw [State.window, State.window, h.active]

theorem lease (h : Calm s t) (w : Fin 16) : t.lease w = s.lease w := by
  rw [State.lease, State.lease, h.leases]

theorem isSome (h : Calm s t) (p : Port) : (t.sessions.get p).isSome = (s.sessions.get p).isSome := by
  rw [← Option.isSome_map, h.key p, Option.isSome_map]

end Calm

section CalmSteps

variable (s : State)

theorem raise_calm (n : EventName) (who : Concerned) (w : Option (Fin 16)) (hi lo : Word) :
    Calm s (raise n who w hi lo s) := by
  rw [raise_frame]
  exact .of_fields rfl rfl rfl rfl rfl rfl rfl rfl rfl

theorem setSession_calm {p : Port} {x y : Session} (hx : s.sessions.get p = some x) (hkey : y.key = x.key)
    (hlen : x.responses.length ≤ Config.responseCapacity → y.responses.length ≤ Config.responseCapacity) :
    Calm s (s.setSession p (some y)) where
  sqr := rfl
  leases := rfl
  profile := rfl
  pwrgood := rfl
  absorbed := rfl
  rise := .inl ⟨rfl, rfl⟩
  key q := by
    rw [setSession_sessions, PerPort_get_set]
    split
    · next hq => rw [hq, hx, Option.map_some, Option.map_some, hkey]
    · rfl
  responses q hs z hz := by
    rw [setSession_sessions, PerPort_get_set] at hz
    split at hz
    · next hq =>
      rw [← Option.some.inj hz]
      exact hlen (hs x (hq ▸ hx))
    · exact hs z hz
  staging q := id

theorem setTxn_calm (p : Port) (t : Txn) (ht : stages t.state = true → stages (s.txns.get p).state = true) :
    Calm s (s.setTxn p t) where
  sqr := rfl
  leases := rfl
  profile := rfl
  pwrgood := rfl
  absorbed := rfl
  rise := .inl ⟨rfl, rfl⟩
  key _ := rfl
  responses _ := id
  staging q := by
    rw [setTxn_txns, PerPort_get_set]
    split
    · next hq => exact hq ▸ ht
    · exact id

theorem calm_closed : RiseClosed Calm where
  refl := .refl
  trans := .trans
  raised s _ _ who w hi lo := raise_calm s _ who w hi lo
  quiet s t h := by
    rw [h]
    exact .of_fields rfl rfl rfl rfl rfl rfl rfl rfl rfl
  txn s p t := setTxn_calm s p t
  session s _ _ _ hx hkey hlen := setSession_calm s hx hkey hlen
  recovery _ _ := .of_fields rfl rfl rfl rfl rfl rfl rfl rfl rfl
  rises _ := ⟨rfl, rfl, rfl, rfl, rfl, .inr ⟨rfl, rfl⟩, fun _ => rfl, fun _ => id, fun _ => id⟩

end CalmSteps

/-! ### The laws and the steps that keep them -/

/-- A port's recognizer is in SESSION exactly while it has a session, and only then does its transaction stage. -/
def PairLaw (s : State) (p : Port) : Prop :=
  ((s.sqr.get p).state = .session ↔ (s.sessions.get p).isSome = true) ∧
  (stages (s.txns.get p).state = true → (s.sessions.get p).isSome = true)

/-- A port's session stands only after READY with the fence OPEN. -/
def OpenLaw (s : State) (p : Port) : Prop :=
  (s.sessions.get p).isSome = true → s.stage = .operating ∧ s.fence = .opened

/-- The fence law with the session law. -/
def GuardLaw (s : State) : Prop := FenceLaw s ∧ SessionLaw s

theorem guardLaw_iff (s : State) : GuardLaw s ↔ FenceLaw s ∧ (∀ p, PairLaw s p) ∧ ∀ p, OpenLaw s p := by
  simp only [GuardLaw, SessionLaw, onBoth_iff, SessionLawOf, PairLaw, OpenLaw]
  refine and_congr_right fun _ => ⟨fun h => ⟨fun p => ?_, fun p => ?_⟩, fun h p => ?_⟩
  · obtain ⟨hsqr, -, hstages⟩ := h p
    exact ⟨hsqr, hstages⟩
  · obtain ⟨-, hopen, -⟩ := h p
    exact hopen
  · obtain ⟨hpair, hopen⟩ := h
    exact ⟨(hpair p).1, hopen p, (hpair p).2⟩

/-- What holds of a LEASED window but for the budget that remains. -/
def Leasable (s : State) (w : Fin 16) (holder : Port) (key : Fin 4) : Prop :=
  (s.window w).enable = true ∧ (s.window w).policy = .guarded ∧ (s.window w).ports.get holder = true ∧
  (s.window w).keyMask.getLsbD key.val = true ∧ (s.sessions.get holder).map Session.key = some key

theorem leasable_congr {s t : State} (hactive : t.active = s.active) (hsessions : t.sessions = s.sessions)
    {w : Fin 16} {p : Port} {k : Fin 4} : Leasable t w p k ↔ Leasable s w p k := by
  simp only [Leasable, State.window, hactive, hsessions]

theorem leaseLawOf_iff (s : State) (w : Fin 16) : LeaseLawOf s w ↔
    ∀ r, s.lease w = .leased r → Leasable s w r.holder r.key ∧ r.budget ≠ some 0#16 := by
  simp only [LeaseLawOf, Leasable, and_assoc]

/-- Keeping the four laws: of the fence, of sessions, of leases and of response queues. -/
structure SeatKept (s t : State) : Prop where
  guard : GuardLaw s → GuardLaw t
  lease : GuardLaw s → LeaseLaw s → LeaseLaw t
  responses : ResponseLaw s → ResponseLaw t

/-- Keeping them one by one, whatever the fence. -/
structure Seated (s t : State) : Prop where
  fence : FenceLaw s → (∀ p, OpenLaw s p) → FenceLaw t ∧ ∀ p, OpenLaw t p
  pairs : (∀ p, PairLaw s p) → ∀ p, PairLaw t p
  lease : (∀ p, PairLaw s p) → LeaseLaw s → LeaseLaw t
  responses : ResponseLaw s → ResponseLaw t

theorem Seated.kept {s t : State} (h : Seated s t) : SeatKept s t where
  guard hs := by
    rw [guardLaw_iff] at hs ⊢
    obtain ⟨hfence, hpairs, hopen⟩ := hs
    obtain ⟨tfence, topen⟩ := h.fence hfence hopen
    exact ⟨tfence, h.pairs hpairs, topen⟩
  lease hs := h.lease ((guardLaw_iff s).mp hs).2.1
  responses := h.responses

theorem Seated.refl (s : State) : Seated s s := ⟨fun hf ho => ⟨hf, ho⟩, id, fun _ => id, id⟩

theorem Seated.trans {s t u : State} (h : Seated s t) (k : Seated t u) : Seated s u where
  fence hf ho := by
    obtain ⟨htf, hto⟩ := h.fence hf ho
    exact k.fence htf hto
  pairs hp := k.pairs (h.pairs hp)
  lease hp hl := k.lease (h.pairs hp) (h.lease hp hl)
  responses hr := k.responses (h.responses hr)

theorem responseLaw_iff (s : State) : ResponseLaw s ↔
    ∀ p x, s.sessions.get p = some x → x.responses.length ≤ Config.responseCapacity := onBoth_iff

/-- The law of a fence that stays, or that falls or stays as READY rises. -/
theorem Calm.fenceLaw {s t : State} (h : Calm s t) (hf : FenceLaw s) : FenceLaw t := by
  obtain ⟨hfenced, habsorbed⟩ := hf
  rw [FenceLaw, h.pwrgood, h.absorbed]
  obtain ⟨hstage, hfence⟩ | ⟨hstage, hfence⟩ := h.rise
  · rw [hstage, hfence]
    exact ⟨hfenced, habsorbed⟩
  · rw [hstage, hfence]
    cases hp : s.pwrgood
    · exact ⟨by simp, nofun⟩
    · rw [hp] at hfenced
      refine ⟨by simpa using hfenced, habsorbed⟩

theorem Calm.seated {s t : State} (h : Calm s t) : Seated s t where
  fence hf ho := by
    refine ⟨h.fenceLaw hf, fun p hp => ?_⟩
    obtain ⟨hoperating, hopened⟩ := ho p (h.isSome p ▸ hp)
    have hpwrgood : s.pwrgood = true := by
      cases hp : s.pwrgood
      · cases hopened.symm.trans (hf.1.mpr ⟨hoperating, hp⟩)
      · rfl
    obtain ⟨hstage, hfence⟩ | ⟨hstage, hfence⟩ := h.rise
    · exact ⟨hstage.trans hoperating, hfence.trans hopened⟩
    · exact ⟨hstage, by rw [hfence, if_pos hpwrgood, hopened]⟩
  pairs hp p := by
    rw [PairLaw, h.sqr, h.isSome p]
    exact ⟨(hp p).1, fun hst => (hp p).2 (h.staging p hst)⟩
  lease _ hl w := by
    rw [leaseLawOf_iff]
    intro r hr
    rw [Leasable, h.window, h.key]
    exact (leaseLawOf_iff s w).mp (hl w) r (h.lease w ▸ hr)
  responses hr := by
    rw [responseLaw_iff] at hr ⊢
    exact fun p => h.responses p (hr p)

/-! ### Leases -/

section Leases

variable {s : State}

/-- Only the leases change, and windows that stay LEASED stay so under the law. -/
theorem Seated.of_leases {s t : State} (ht : t = { s with leases := t.leases, raised := t.raised })
    (hlease : LeaseLaw s → LeaseLaw t) : Seated s t where
  fence hf ho := by
    rw [ht]
    exact ⟨hf, ho⟩
  pairs hp := by
    rw [ht]
    exact hp
  lease _ := hlease
  responses hr := by
    rw [ht]
    exact hr

theorem LeaseLaw.setLease {w : Fin 16} {l : Lease} (h : LeaseLaw s)
    (hl : ∀ r, l = .leased r → Leasable s w r.holder r.key ∧ r.budget ≠ some 0#16) : LeaseLaw (s.setLease w l) := by
  intro v
  rw [leaseLawOf_iff, setLease_lease]
  split
  · next hv => exact hv ▸ hl
  · exact (leaseLawOf_iff s v).mp (h v)

theorem LeaseLaw.raise (h : LeaseLaw s) (n : EventName) (who : Concerned) (w : Option (Fin 16)) (hi lo : Word) :
    LeaseLaw (raise n who w hi lo s) := by
  rw [raise_frame]
  exact h

theorem setLease_seated (w : Fin 16) {l : Lease}
    (hl : LeaseLaw s → ∀ r, l = .leased r → Leasable s w r.holder r.key ∧ r.budget ≠ some 0#16) :
    Seated s (s.setLease w l) := .of_leases rfl fun h => h.setLease (hl h)

theorem raise_seated (n : EventName) (who : Concerned) (w : Option (Fin 16)) (hi lo : Word) (s : State) :
    Seated s (raise n who w hi lo s) := (raise_calm s n who w hi lo).seated

theorem setLease_after_seated (w : Fin 16) (x : Window) : Seated s (s.setLease w (afterLease x)) :=
  setLease_seated w fun _ r hr => absurd hr (afterLease_ne_leased x r)

theorem endLease_seated (w : Fin 16) (c : LeaseCause) (s : State) : Seated s (endLease w c s) := by
  unfold endLease
  split
  · exact (setLease_after_seated ..).trans (raise_seated ..)
  · exact .refl s
  · exact .refl s

theorem spendUnit_seated (p : Port) (w : Fin 16) (s : State) : Seated s (spendUnit p w s) := by
  obtain heq | ⟨r, hr, -, ⟨hbudget, heq⟩ | ⟨-, heq⟩⟩ := spendUnit_cases p w s
  · rw [heq]
    exact .refl s
  · rw [heq]
    refine setLease_seated w fun hl r' hr' => ?_
    cases hr'
    exact ⟨((leaseLawOf_iff s w).mp (hl w) r hr).1, hbudget⟩
  · rw [heq]
    exact (setLease_after_seated ..).trans (raise_seated ..)

theorem spendAt_seated (p : Port) (x : Addr) (s : State) : Seated s (spendAt p x s) := by
  unfold spendAt
  split
  · exact spendUnit_seated ..
  · exact .refl s

theorem endLeasesOf_seated (p : Port) (c : LeaseCause) (s : State) : Seated s (endLeasesOf p c s) := by
  have hframe := endLeasesOf_frame p c s
  refine .of_leases hframe fun h w => ?_
  rw [leaseLawOf_iff, endLeasesOf_lease]
  intro r hr
  split at hr
  · exact absurd hr (afterLease_ne_leased _ r)
  · rw [leasable_congr (endLeasesOf_operates p s c).active (congrArg State.sessions hframe :)]
    exact (leaseLawOf_iff s w).mp (h w) r hr

theorem newLease_budget (p : Port) (k : Fin 4) (x : Window) : (newLease p k x).budget ≠ some 0#16 := by
  unfold newLease
  by_cases h : x.budget = 0#16 <;> simp [h]

theorem openLeaseFor_seated {p : Port} {k : Fin 4} {w : Fin 16} (h : Leasable s w p k) :
    Seated s (openLeaseFor p k w s) := by
  refine .trans (setLease_seated w fun _ r hr => ?_) (raise_seated ..)
  cases hr
  exact ⟨h, newLease_budget _ _ _⟩

end Leases

end Sys2Proof.Machine

/-! SUPPORT. The end of a session (03 R65): what it leaves of the leases, the transaction and the session, and the
events it raises, in their order. -/

namespace Sys2Proof.Machine

/-! ### The events of the leases that end (04 R76, R78) -/

theorem leaseCount_of_leased {s : State} {w : Fin 16} {r : LeaseRecord} (h : s.lease w = .leased r) :
    s.leaseCount w = r.count := by
  simp only [State.leaseCount, h]

theorem audience_congr {s t : State} (h : t.active = s.active) (who : Concerned) : t.audience who = s.audience who := by
  simp only [State.audience, State.reader, h]

theorem told_congr {s t : State} (h : t.active = s.active) (n : EventName) (who : Concerned) (w : Option (Fin 16))
    (hi lo : Word) : t.told n who w hi lo = s.told n who w hi lo := by
  rw [State.told, State.told, State.noticeOf, State.noticeOf, audience_congr h]

/-- LEASE_ENDED of a window when the session of the port that holds its lease ends (04 R78). -/
def State.leaseEndOf (s : State) (p : Port) (c : LeaseCause) (w : Fin 16) : List Notice :=
  if s.leasedTo w p = true then s.told .leaseEnded (.port p) (some w) (leaseCauseCode c) (s.leaseCount w) else []

theorem leasedTo_congr {s t : State} {w : Fin 16} (h : t.lease w = s.lease w) (p : Port) :
    t.leasedTo w p = s.leasedTo w p := by
  rw [State.leasedTo, h, State.leasedTo]

theorem leaseCount_congr {s t : State} {w : Fin 16} (h : t.lease w = s.lease w) : t.leaseCount w = s.leaseCount w := by
  rw [State.leaseCount, h, State.leaseCount]

theorem leaseEndOf_congr {s t : State} (h : t.active = s.active) {w : Fin 16} (hl : t.lease w = s.lease w) (p : Port)
    (c : LeaseCause) : t.leaseEndOf p c w = s.leaseEndOf p c w := by
  rw [State.leaseEndOf, State.leaseEndOf, leasedTo_congr hl, leaseCount_congr hl, told_congr h]

theorem flatMap_leaseEndOf (s : State) (p : Port) (c : LeaseCause) (ws : List (Fin 16)) :
    ws.flatMap (s.leaseEndOf p c) = (ws.filter (fun w => s.leasedTo w p)).flatMap (fun w =>
      s.told .leaseEnded (.port p) (some w) (leaseCauseCode c) (s.leaseCount w)) := by
  induction ws with
  | nil => rfl
  | cons w rest ih =>
    rw [List.flatMap_cons, ih, List.filter_cons, State.leaseEndOf]
    split <;> rfl

section EndOfLeases

variable (p : Port) (c : LeaseCause) (s : State)

theorem endLeaseOf_raised (w : Fin 16) : (endLeaseOf p c s w).raised = s.raised ++ s.leaseEndOf p c w := by
  unfold endLeaseOf State.leaseEndOf
  split
  · next h =>
    obtain ⟨r, hr, rfl⟩ := leasedTo_iff.mp h
    rw [endLease_leased w c s r hr, raise_told, leaseCount_of_leased hr]
    rfl
  · rw [List.append_nil]

theorem foldl_endLeaseOf_raised (ws : List (Fin 16)) (hws : ws.Nodup) :
    (ws.foldl (endLeaseOf p c) s).raised = s.raised ++ ws.flatMap (s.leaseEndOf p c) := by
  induction ws generalizing s with
  | nil => exact (List.append_nil _).symm
  | cons w rest ih =>
    obtain ⟨hw, hrest⟩ := List.nodup_cons.mp hws
    have hlater : rest.flatMap ((endLeaseOf p c s w).leaseEndOf p c) = rest.flatMap (s.leaseEndOf p c) := by
      refine List.flatMap_congr fun v hv => leaseEndOf_congr (endLeaseOf_operates p s c w).active ?_ p c
      rw [endLeaseOf_lease, if_neg]
      exact fun h => hw (h.1 ▸ hv)
    rw [List.foldl_cons, ih _ hrest, endLeaseOf_raised, hlater, List.flatMap_cons, List.append_assoc]

/-- The leases of a port end in ascending window order, each with its event (04 R78). -/
theorem endLeasesOf_raised : (endLeasesOf p c s).raised = s.raised ++ allWindows.flatMap (s.leaseEndOf p c) :=
  foldl_endLeaseOf_raised p c s allWindows (by decide)

end EndOfLeases

/-! ### The transaction of a session that ends (03 R65 (b), (c)) -/

theorem endTxn_told (p : Port) (o : TxnOutcome) (s : State) :
    (endTxn p o s).raised = s.raised ++ s.outcomeNotice p o := by
  rw [endTxn_raised, raiseOutcome, raise_told]
  rfl

theorem outcomeNotice_congr {s t : State} (hactive : t.active = s.active) (hsb : t.sb = s.sb) {p : Port}
    (htxn : (t.txns.get p).number = (s.txns.get p).number) (o : TxnOutcome) :
    t.outcomeNotice p o = s.outcomeNotice p o := by
  simp only [State.outcomeNotice, State.entryCount, hsb, htxn, told_congr hactive]

/-- A staging transaction has not been accepted, so its end offers no outcome word. -/
theorem endTxn_sessions_of_stages {s : State} {p : Port} (h : stages (s.txns.get p).state = true) (o : TxnOutcome) :
    (endTxn p o s).sessions = s.sessions := by
  refine endTxn_sessions_of_unawaited p o s (.inl ?_)
  revert h
  cases (s.txns.get p).state <;> decide

section Release

variable {s : State} {p : Port}

theorem releaseTxn_of_stages (h : stages (s.txns.get p).state = true) : releaseTxn p s = endTxn p .discarded s :=
  if_pos h

theorem releaseTxn_of_not_stages (h : stages (s.txns.get p).state = false) :
    releaseTxn p s = s.setTxn p { s.txns.get p with linked := false } :=
  if_neg (by simp [h])

theorem releaseTxn_sessions : (releaseTxn p s).sessions = s.sessions := by
  cases h : stages (s.txns.get p).state
  · rw [releaseTxn_of_not_stages h]
    rfl
  · rw [releaseTxn_of_stages h, endTxn_sessions_of_stages h]

theorem releaseTxn_not_stages : stages ((releaseTxn p s).txns.get p).state = false := by
  cases h : stages (s.txns.get p).state
  · rw [releaseTxn_of_not_stages h, setTxn_txns, PerPort_get_set_same]
    exact h
  · rw [releaseTxn_of_stages h, endTxn_txns, PerPort_get_set_same]
    rfl

end Release

/-! ### The whole end (03 R65) -/

theorem endSession_of_none {s : State} {p : Port} (h : s.sessions.get p = none) (c : SessionCause) :
    endSession p c s = s := by
  simp only [endSession, h]

theorem endSession_of_some {s : State} {p : Port} {y : Session} (h : s.sessions.get p = some y) (c : SessionCause) :
    endSession p c s = closeSession p c s := by
  simp only [endSession, h]

/-- The end of a transaction that stages, in full: no session is offered its outcome. -/
theorem endTxn_of_stages {s : State} {p : Port} (h : stages (s.txns.get p).state = true) (o : TxnOutcome) :
    endTxn p o s = { s with
      sb := entriesAfter p o s.sb, claims := (endTxn p o s).claims, txns := s.txns.set p Txn.empty,
      commitQueue := s.commitQueue.filter (fun q => decide (q ≠ p)), raised := s.raised ++ s.outcomeNotice p o } := by
  conv => lhs; rw [endTxn_frame]
  rw [endTxn_sb, endTxn_txns, endTxn_commitQueue, endTxn_sessions_of_stages h, endTxn_told]

/-- What follows the end of a session's leases, whatever leases and events that end leaves (03 R65 (b) to (f)). -/
theorem sessionEnded_of_leases {s t : State} {p : Port} {c : SessionCause}
    (hframe : t = { s with leases := t.leases, raised := t.raised })
    (hlease : ∀ w, t.lease w = if s.leasedTo w p = true then afterLease (s.window w) else s.lease w)
    (hraised : t.raised = s.raised ++ allWindows.flatMap (s.leaseEndOf p (leaseCauseOf c))) :
    SessionEnded s (raise .sessionEnded (.port p) none 0#16 (sessionCauseCode c)
      (((releaseTxn p t).setSession p none).setSqr p Sqr.fresh)) p c := by
  rw [flatMap_leaseEndOf] at hraised
  have hactive : t.active = s.active := (congrArg State.active hframe :)
  have htxns : t.txns = s.txns := (congrArg State.txns hframe :)
  have hsb : t.sb = s.sb := (congrArg State.sb hframe :)
  have hclaims : t.claims = s.claims := (congrArg State.claims hframe :)
  have hqueue : t.commitQueue = s.commitQueue := (congrArg State.commitQueue hframe :)
  have hended (w : Fin 16) (hw : s.leasedTo w p = true) : t.lease w = afterLease (s.window w) :=
    (hlease w).trans (if_pos hw)
  have hkept (w : Fin 16) (hw : s.leasedTo w p = false) : t.lease w = s.lease w :=
    (hlease w).trans (if_neg (by simp [hw]))
  rw [raise_told]
  cases hstages : stages (s.txns.get p).state
  · rw [releaseTxn_of_not_stages (by rw [htxns, hstages])]
    refine ⟨?frame, hended, hkept, fun h => ?staged, fun _ => ⟨?cut, hsb, hclaims, hqueue⟩, ?raised⟩
    case frame =>
      rw [hframe]
      rfl
    case staged => cases hstages.symm.trans h
    case cut =>
      rw [← htxns]
      rfl
    case raised =>
      rw [State.sessionEndNotices, hstages, if_neg Bool.false_ne_true, List.append_nil, ← List.append_assoc, ← hraised]
      exact congrArg (t.raised ++ ·) (told_congr hactive ..)
  · have hstaged : stages (t.txns.get p).state = true := by rw [htxns, hstages]
    have hclaim (w : Fin 16) : (endTxn p .discarded t).claim w = if s.claim w = some p then none else s.claim w := by
      rw [endTxn_claim, State.claim, hclaims]
      rfl
    rw [releaseTxn_of_stages hstaged, endTxn_of_stages hstaged]
    refine ⟨?frame, hended, hkept, fun _ => ⟨?txns, ?sb, hclaim, ?queue⟩, fun h => ?cut, ?raised⟩
    case frame =>
      rw [hframe]
      rfl
    case txns =>
      rw [← htxns]
      rfl
    case sb =>
      rw [← hsb]
      rfl
    case queue =>
      rw [← hqueue]
      rfl
    case cut => cases hstages.symm.trans h
    case raised =>
      rw [State.sessionEndNotices, hstages, if_pos rfl, ← List.append_assoc, ← List.append_assoc, ← hraised,
        ← outcomeNotice_congr hactive hsb (by rw [htxns])]
      exact congrArg (t.raised ++ t.outcomeNotice p .discarded ++ ·) (told_congr hactive ..)

/-- What the end of a session does, and all that it does (03 R65). -/
theorem closeSession_ended (p : Port) (c : SessionCause) (s : State) : SessionEnded s (closeSession p c s) p c :=
  sessionEnded_of_leases (endLeasesOf_frame ..) (fun w => endLeasesOf_lease w _ s) (endLeasesOf_raised ..)

end Sys2Proof.Machine

/-! SUPPORT. The laws of the fence, the sessions, their response queues and the leases over the operations of
chapters 1 to 8, and over every effect. -/

namespace Sys2Proof.Machine

/-! ### The response queue and the verbs (03 R49, R51) -/

section Verbs

variable {s : State} {p : Port} {x : Session}

theorem Calm.seated_trans {s t u : State} (h : Calm s t) (k : Seated t u) : Seated s u := h.seated.trans k

theorem respond_calm (hx : s.sessions.get p = some x) (v : Byte) (r : Result) {more : List Word}
    (hspace : more.length + 1 ≤ freeWords x) : Calm s (respond p v r more s) := by
  rw [respond_session p v r more s x hx]
  refine setSession_calm s hx rfl fun hlen => ?_
  rw [freeWords] at hspace
  rw [List.length_append, List.length_cons]
  omega

theorem setAwaited_calm : Calm s (setAwaited p s) := by
  unfold setAwaited
  split
  · next y hy => exact setSession_calm s hy rfl id
  · exact .refl s

theorem restartIdle_calm : Calm s (restartIdle p s) := by
  unfold restartIdle
  split
  · next y hy => exact setSession_calm s hy rfl id
  · exact .refl s

theorem overrunCommand_calm (hx : s.sessions.get p = some x) (command : Word) :
    Calm s (overrunCommand p x command s) :=
  (setSession_calm s (y := { x with overrun := true }) hx rfl id).trans (raise_calm ..)

theorem queueTxn_calm : Calm s (queueTxn p s) :=
  (calm_closed.quiet s { s with commitQueue := s.commitQueue ++ [p] } rfl).trans (calm_closed.setTxnState p _ rfl)

theorem takeWhenTwo_calm : Calm s (takeWhenTwo s) := by
  unfold takeWhenTwo
  split
  · exact calm_closed.engineTake s
  · exact .refl s

theorem Calm.leasable {s t : State} (h : Calm s t) {w : Fin 16} {k : Fin 4} (hl : Leasable s w p k) :
    Leasable t w p k := by
  rw [Leasable, h.window, h.key]
  exact hl

theorem leasable_of_openResult {w : Fin 16} (hx : s.sessions.get p = some x) (hw : (s.window w).enable = true)
    (h : s.openResult p x.key w = .ok) : Leasable s w p x.key := by
  unfold State.openResult at h
  split at h
  · cases h
  · next hleasable =>
    obtain ⟨hpolicy, hkey, hport⟩ := (leasable_iff s p x.key w).mp (by simpa using hleasable)
    exact ⟨hw, hpolicy, hport, hkey, by rw [hx]; rfl⟩

theorem scOpen_seated (hx : s.sessions.get p = some x) (hspace : 1 ≤ freeWords x) (operand : Byte) :
    Seated s (scOpen p x operand s) := by
  have hcalm (r : Result) : Calm s (respond p 0x01#8 r [] s) := respond_calm hx _ r hspace
  unfold scOpen
  split
  · exact (hcalm _).seated
  · next w hw =>
    have henable : (s.window w).enable = true := by
      simpa using (Option.filter_eq_some_iff.mp hw).2
    dsimp only
    split
    · next hok =>
      exact (hcalm _).seated_trans (openLeaseFor_seated ((hcalm _).leasable (leasable_of_openResult hx henable hok)))
    · exact (hcalm _).seated

theorem scClose_seated (hx : s.sessions.get p = some x) (hspace : 1 ≤ freeWords x) (operand : Byte) :
    Seated s (scClose p operand s) := by
  have hcalm (r : Result) : Calm s (respond p 0x02#8 r [] s) := respond_calm hx _ r hspace
  unfold scClose
  split
  · exact (hcalm _).seated
  · split
    · exact (hcalm _).seated_trans (endLease_seated ..)
    · exact (hcalm _).seated

/-- A transaction of a port in session may stage. -/
theorem setTxn_seated (h : (s.sessions.get p).isSome = true) (t : Txn) : Seated s (s.setTxn p t) where
  fence hf ho := ⟨hf, ho⟩
  pairs hp q := by
    refine ⟨(hp q).1, fun hst => ?_⟩
    by_cases hq : q = p
    · exact hq ▸ h
    · refine (hp q).2 ?_
      rwa [setTxn_txns, PerPort_get_set, if_neg hq] at hst
  lease _ hl := hl
  responses hr := hr

theorem scBegin_seated (hx : s.sessions.get p = some x) (hspace : 1 ≤ freeWords x) : Seated s (scBegin p x s) := by
  have hcalm (r : Result) : Calm s (respond p 0x03#8 r [] s) := respond_calm hx _ r hspace
  unfold scBegin
  dsimp only
  split
  · have hopen : ((respond p 0x03#8 (s.beginResult p x) [] s).sessions.get p).isSome = true := by
      rw [(hcalm _).isSome, hx]
      rfl
    exact ((hcalm _).seated_trans (setTxn_seated hopen _)).trans (raise_seated ..)
  · exact (hcalm _).seated

theorem scCommit_calm (hx : s.sessions.get p = some x) (hspace : 1 ≤ freeWords x) : Calm s (scCommit p x s) := by
  have hcalm (r : Result) : Calm s (respond p 0x04#8 r [] s) := respond_calm hx _ r hspace
  unfold scCommit
  dsimp only
  split
  · exact (hcalm _).trans (calm_closed.endTxn ..)
  split
  · exact (hcalm _).trans ((queueTxn_calm.trans setAwaited_calm).trans takeWhenTwo_calm)
  · exact hcalm _

theorem scAbort_calm (hx : s.sessions.get p = some x) (hspace : 1 ≤ freeWords x) : Calm s (scAbort p x s) := by
  have hcalm (r : Result) : Calm s (respond p 0x05#8 r [] s) := respond_calm hx _ r hspace
  unfold scAbort
  dsimp only
  split
  · split
    · exact (hcalm _).trans (calm_closed.stopEngine ..)
    · exact (hcalm _).trans (calm_closed.endTxn ..)
  · exact hcalm _

theorem scNextEvent_calm (hx : s.sessions.get p = some x) (hspace : 6 ≤ freeWords x) :
    Calm s (scNextEvent p x s) := by
  have hone : ([] : List Word).length + 1 ≤ freeWords x := Nat.le_trans (by decide) hspace
  unfold scNextEvent
  split
  · exact respond_calm hx _ _ hone
  · split
    · exact respond_calm hx _ _ hone
    · have htaken : Calm s { s with records := takeRecord p s.records } :=
        .of_fields rfl rfl rfl rfl rfl rfl rfl rfl rfl
      exact htaken.trans (respond_calm (by exact hx) _ _ hspace)

theorem scAlertMask_calm (hx : s.sessions.get p = some x) (hspace : 1 ≤ freeWords x) (operand : Byte) :
    Calm s (scAlertMask p operand s) := by
  have hset : Calm s (s.setAlertMask p operand) := .of_fields rfl rfl rfl rfl rfl rfl rfl rfl rfl
  exact hset.trans (respond_calm (by exact hx) _ _ hspace)

end Verbs

/-! ### The end of a session (03 R65) -/

/-- A session is closed without harm once its port holds no lease and stages nothing. -/
theorem clearSession_seated {s : State} {p : Port} (hlease : ∀ w, s.leasedTo w p = false)
    (hstages : stages (s.txns.get p).state = false) : Seated s ((s.setSession p none).setSqr p Sqr.fresh) where
  fence hf ho := by
    refine ⟨hf, fun q hq => ?_⟩
    rw [setSqr_sessions, setSession_sessions, PerPort_get_set] at hq
    split at hq
    · cases hq
    · exact ho q hq
  pairs hp q := by
    rw [PairLaw, setSqr_sessions, setSession_sessions, PerPort_get_set, setSqr_sqr, setSession_sqr, PerPort_get_set]
    split
    · next hq =>
      subst hq
      exact ⟨by decide, fun h => absurd (hstages.symm.trans h) Bool.false_ne_true⟩
    · exact hp q
  lease _ hl w := by
    rw [leaseLawOf_iff]
    intro r hr
    obtain ⟨⟨henable, hpolicy, hport, hmask, hkey⟩, hbudget⟩ := (leaseLawOf_iff s w).mp (hl w) r hr
    refine ⟨⟨henable, hpolicy, hport, hmask, ?_⟩, hbudget⟩
    rw [setSqr_sessions, setSession_sessions, PerPort_get_set, if_neg (leasedTo_eq_false.mp (hlease w) r hr)]
    exact hkey
  responses hr := by
    rw [responseLaw_iff] at hr ⊢
    intro q y hy
    rw [setSqr_sessions, setSession_sessions, PerPort_get_set] at hy
    split at hy
    · cases hy
    · exact hr q y hy

theorem releaseTxn_calm (p : Port) (s : State) : Calm s (releaseTxn p s) := by
  unfold releaseTxn
  split
  · exact calm_closed.endTxn ..
  · exact setTxn_calm s p _ id

theorem leasedTo_endLeasesOf (p : Port) (c : LeaseCause) (s : State) (w : Fin 16) :
    (endLeasesOf p c s).leasedTo w p = false := by
  rw [leasedTo_eq_false, endLeasesOf_lease]
  intro r hr
  split at hr
  · exact absurd hr (afterLease_ne_leased _ r)
  · next h => exact leasedTo_eq_false.mp (by simpa using h) r hr

theorem closeSession_seated (p : Port) (c : SessionCause) (s : State) : Seated s (closeSession p c s) := by
  have hreleased := releaseTxn_calm p (endLeasesOf p (leaseCauseOf c) s)
  have hlease (w : Fin 16) : (releaseTxn p (endLeasesOf p (leaseCauseOf c) s)).leasedTo w p = false :=
    (leasedTo_congr (hreleased.lease w) p).trans (leasedTo_endLeasesOf ..)
  exact (((endLeasesOf_seated ..).trans hreleased.seated).trans
    (clearSession_seated hlease releaseTxn_not_stages)).trans (raise_seated ..)

theorem endSession_seated (p : Port) (c : SessionCause) (s : State) : Seated s (endSession p c s) := by
  unfold endSession
  split
  · exact closeSession_seated ..
  · exact .refl s

/-! ### Command words -/

theorem verbNeed_of_toNat {v : Byte} (h6 : v.toNat ≠ 6) (h7 : v.toNat ≠ 7) (h9 : v.toNat ≠ 9) : verbNeed v = 1 := by
  have hne (n : Byte) (h : v.toNat ≠ n.toNat) : v ≠ n := fun e => h (congrArg _ e)
  rw [verbNeed, if_neg (hne 6#8 h6), if_neg (hne 7#8 h7), if_neg (hne 9#8 h9)]

theorem performVerb_seated {s : State} {p : Port} {x : Session} (hx : s.sessions.get p = some x) {command : Word}
    (hspace : verbNeed (verbByte command) ≤ freeWords x) : Seated s (performVerb p x command s) := by
  have hone (h6 : (verbByte command).toNat ≠ 6) (h7 : (verbByte command).toNat ≠ 7)
      (h9 : (verbByte command).toNat ≠ 9) : 1 ≤ freeWords x := verbNeed_of_toNat h6 h7 h9 ▸ hspace
  unfold performVerb
  dsimp only
  split
  · next h => exact scOpen_seated hx (hone (by omega) (by omega) (by omega)) _
  · next h => exact scClose_seated hx (hone (by omega) (by omega) (by omega)) _
  · next h => exact scBegin_seated hx (hone (by omega) (by omega) (by omega))
  · next h => exact (scCommit_calm hx (hone (by omega) (by omega) (by omega))).seated
  · next h => exact (scAbort_calm hx (hone (by omega) (by omega) (by omega))).seated
  · next h =>
    rw [show verbByte command = 0x06#8 from BitVec.eq_of_toNat_eq h] at hspace
    exact (respond_calm hx _ _ (more := s.statusWords p) hspace).seated
  · next h =>
    rw [show verbByte command = 0x07#8 from BitVec.eq_of_toNat_eq h] at hspace
    exact (scNextEvent_calm hx hspace).seated
  · next h => exact (scAlertMask_calm hx (hone (by omega) (by omega) (by omega)) _).seated
  · exact endSession_seated ..
  · next h6 h7 _ h9 => exact (respond_calm hx _ _ (more := []) (hone h6 h7 h9)).seated

theorem performCommand_seated {s : State} {p : Port} {x : Session} (hx : s.sessions.get p = some x)
    (command : Word) : Seated s (performCommand p x command s) := by
  unfold performCommand
  split
  · exact (overrunCommand_calm hx command).seated
  · next h => exact performVerb_seated hx (Nat.not_lt.mp h)

end Sys2Proof.Machine

/-! SUPPORT. The laws of the fence, the sessions, their response queues and the leases over the recognizers, the
client cycles, start-up and the fence, and so over every effect. -/

namespace Sys2Proof.Machine

/-! ### Recognizers (chapter 2) -/

section Recognizers

variable {s : State} {p : Port}

theorem setSqr_seated {q : Sqr} (h : q.state = .session ↔ (s.sqr.get p).state = .session) :
    Seated s (s.setSqr p q) where
  fence hf ho := ⟨hf, ho⟩
  pairs hp r := by
    rw [PairLaw, setSqr_sqr, PerPort_get_set]
    split
    · next hr =>
      rw [h, ← hr]
      exact hp r
    · exact hp r
  lease _ hl := hl
  responses hr := hr

/-- A recognizer that is not in SESSION, replaced by another such. -/
theorem setSqr_seated_of_ne {q : Sqr} (hq : q.state ≠ .session) (hs : (s.sqr.get p).state ≠ .session) :
    Seated s (s.setSqr p q) := setSqr_seated (iff_of_false hq hs)

theorem countBreak_seated {q : Sqr} (hq : q.state ≠ .session) (hs : (s.sqr.get p).state ≠ .session) (c : Word) :
    Seated s (countBreak p c q s) := by
  by_cases hlimit : q.breaks + 1 = s.breakLimit
  · rw [countBreak_of_eq_limit hlimit]
    exact (setSqr_seated_of_ne SqrState.noConfusion hs).trans (raise_seated ..)
  · rw [countBreak_of_ne_limit hlimit]
    exact setSqr_seated_of_ne hq hs

/-- A session opens at a port that has none, READY and with the fence OPEN. -/
theorem openSeat_seated {q : Sqr} {y : Session} (hs : (s.sqr.get p).state ≠ .session) (hready : s.stage = .operating)
    (hopened : s.fence = .opened) (hq : q.state = .session) (hy : y.responses = []) :
    Seated s ((s.setSqr p q).setSession p (some y)) where
  fence hf _ := ⟨hf, fun _ _ => ⟨hready, hopened⟩⟩
  pairs hp r := by
    rw [PairLaw, setSession_sqr, setSqr_sqr, setSession_sessions, setSqr_sessions, PerPort_get_set, PerPort_get_set]
    split
    · exact ⟨iff_of_true hq rfl, fun _ => rfl⟩
    · exact hp r
  lease hp hl w := by
    rw [leaseLawOf_iff]
    intro r hr
    obtain ⟨⟨henable, hpolicy, hport, hmask, hkey⟩, hbudget⟩ := (leaseLawOf_iff s w).mp (hl w) r hr
    refine ⟨⟨henable, hpolicy, hport, hmask, ?_⟩, hbudget⟩
    rw [setSession_sessions, setSqr_sessions, PerPort_get_set, if_neg]
    · exact hkey
    · rintro rfl
      refine hs ((hp r.holder).1.mpr ?_)
      rw [← Option.isSome_map, hkey]
      rfl
  responses hr := by
    rw [responseLaw_iff] at hr ⊢
    intro r z hz
    rw [setSession_sessions, setSqr_sessions, PerPort_get_set] at hz
    split at hz
    · rw [← Option.some.inj hz, hy]
      exact Nat.zero_le _
    · exact hr r z hz

theorem completeKey_seated (hs : (s.sqr.get p).state = .watching) (hready : s.stage = .operating)
    (hopened : s.fence = .opened) (k : Fin 4) : Seated s (completeKey p k s) :=
  (openSeat_seated (y := newSession (s.setSqr p sessionSqr) k) (by rw [hs]; decide) hready hopened rfl rfl).trans
    (raise_seated ..)

theorem observes_iff : s.observes p = true ↔
    (s.sqr.get p).state = .watching ∧ s.stage = .operating ∧ s.fence = .opened := by
  simp [State.observes, State.ready, and_assoc]

theorem observe_seated (p : Port) (x : Addr) (d : Word) (s : State) : Seated s (observe p x d s) := by
  unfold observe
  split
  · next h =>
    obtain ⟨hwatch, hready, hopened⟩ := observes_iff.mp h
    have hs : (s.sqr.get p).state ≠ .session := by rw [hwatch]; decide
    unfold takeWrite
    dsimp only
    split
    · exact completeKey_seated hwatch hready hopened _
    split
    · exact countBreak_seated (q := movedSqr s (s.sqr.get p) x d) hs hs _
    · exact setSqr_seated_of_ne (q := movedSqr s (s.sqr.get p) x d) hs hs
  · exact .refl s

theorem fenceSqr_seated (p : Port) (s : State) : Seated s (fenceSqr p s) := by
  unfold fenceSqr
  split
  · exact setSqr_seated Iff.rfl
  · exact .refl s

end Recognizers

/-! ### Courses (01 Table 1-3) -/

section Courses

variable {s : State} {p : Port} {x : Addr}

/-- A write is absorbed by the fence only when FENCED, and staged only in its window, by a transaction that stages. -/
def CourseFits (s : State) (p : Port) (x : Addr) : WriteCourse → Prop
  | .fenced => s.fence = .fenced
  | .stage w => s.windowOf x = some w ∧ s.stageBound p w = true
  | .reserved | .portDenied _ | .denied _ | .conflict _ | .forward => True

theorem writeStep6_fits : CourseFits s p x (s.writeStep6 p x) := by
  unfold State.writeStep6
  dsimp only
  split
  · next h => exact h
  split
  · trivial
  split
  · trivial
  unfold State.directCourse
  split
  · next w hw =>
    split
    · next hbound => exact ⟨hw, hbound⟩
    split
    · trivial
    · trivial
  · trivial

theorem writeCourse_fits : CourseFits s p x (s.writeCourse p x) := by
  unfold State.writeCourse
  split
  · trivial
  split
  · split
    · exact writeStep6_fits
    · trivial
  · exact writeStep6_fits

theorem stages_of_stageBound {w : Fin 16} (h : s.stageBound p w = true) : stages (s.txns.get p).state = true := by
  rw [State.stageBound, Bool.and_eq_true] at h
  exact h.2

end Courses

/-! ### Client cycles (chapters 1 and 10) -/

section Cycles

variable {s : State} {p : Port} {x : Addr} {d : Word}

theorem setPort_calm (p : Port) (c : ClientPort) (s : State) : Calm s (s.setPort p c) :=
  .of_fields rfl rfl rfl rfl rfl rfl rfl rfl rfl

theorem setInFlight_calm (s : State) (a : Option Access) : Calm s { s with inFlight := a } :=
  .of_fields rfl rfl rfl rfl rfl rfl rfl rfl rfl

theorem settleWrite_seated (p : Port) (x : Addr) (d : Word) (s : State) : Seated s (settleWrite p x d s) :=
  (observe_seated p x d s).trans (setPort_calm ..).seated

theorem overflowTxn_calm (h : stages (s.txns.get p).state = true) (w : Fin 16) (c : Word) :
    Calm s (overflowTxn p w c s) := (setTxn_calm s p _ fun _ => h).trans (raise_calm ..)

theorem stageWrite_seated (h : stages (s.txns.get p).state = true) (w : Fin 16) (x : Addr) (d : Word) :
    Seated s (stageWrite p w x d s) := by
  unfold stageWrite
  split
  · exact .refl s
  split
  · exact raise_seated ..
  split
  · exact (calm_closed.setStage s _).seated_trans (spendUnit_seated ..)
  split
  · exact (overflowTxn_calm h ..).seated
  split
  · exact (overflowTxn_calm h ..).seated
  · exact (calm_closed.quiet s (joinStaged p w x d s) rfl).seated_trans (spendUnit_seated ..)

/-- The FM counts a write only while FENCED (08 R159). -/
theorem countAbsorbed_seated (h : s.fence = .fenced) : Seated s (countAbsorbed s) where
  fence hf ho := ⟨⟨hf.1, fun hopened => by cases h.symm.trans hopened⟩, ho⟩
  pairs hp := hp
  lease _ hl := hl
  responses hr := hr

theorem applyWrite_seated {course : WriteCourse} (h : CourseFits s p x course) :
    Seated s (applyWrite p x d course s) := by
  cases course with
  | reserved => exact (raise_seated ..).trans (settleWrite_seated ..)
  | portDenied w => exact (raise_seated ..).trans (settleWrite_seated ..)
  | fenced => exact (countAbsorbed_seated h).trans (setPort_calm ..).seated
  | denied w => exact (raise_seated ..).trans (settleWrite_seated ..)
  | conflict w => exact (raise_seated ..).trans (settleWrite_seated ..)
  | stage w => exact (stageWrite_seated (stages_of_stageBound h.2) ..).trans (settleWrite_seated ..)
  | forward => exact Calm.seated (.of_fields rfl rfl rfl rfl rfl rfl rfl rfl rfl)

theorem applyRead_calm (p : Port) (x : Addr) (course : ReadCourse) (s : State) : Calm s (applyRead p x course s) := by
  cases course <;> exact .of_fields rfl rfl rfl rfl rfl rfl rfl rfl rfl

theorem takeCommandAccess_seated {y : Session} (hy : s.sessions.get p = some y) (kind : AccessKind) :
    Seated s (takeCommandAccess p y kind s) := by
  cases kind with
  | read =>
    have hread : Calm s (s.setSession p (some (afterCommandRead y))) := by
      unfold afterCommandRead
      split
      · next w rest hrest =>
        refine setSession_calm s hy rfl fun hlen => ?_
        rw [hrest, List.length_cons] at hlen
        exact Nat.le_of_succ_le hlen
      · exact setSession_calm s hy rfl id
    exact (hread.trans (setPort_calm ..)).seated
  | write d => exact (performCommand_seated hy d).trans (setPort_calm ..).seated

theorem decideAccess_seated (p : Port) (kind : AccessKind) (x : Addr) (s : State) :
    Seated s (decideAccess p kind x s) := by
  unfold decideAccess
  dsimp only
  refine (restartIdle_calm (s := s) (p := p)).seated_trans ?_
  split
  · next y hy =>
    refine takeCommandAccess_seated ?_ kind
    unfold State.sessionAt at hy
    split at hy
    · exact hy
    · cases hy
  · cases kind with
    | read => exact (applyRead_calm ..).seated
    | write d => exact applyWrite_seated writeCourse_fits

theorem settleCycle_seated (p : Port) (kind : AccessKind) (x : Addr) (s : State) :
    Seated s (settleCycle p kind x s) := by
  unfold settleCycle
  split
  · exact (setPort_calm ..).seated
  split
  · exact decideAccess_seated ..
  · exact ((setPort_calm ..).trans (setPort_calm ..)).seated

theorem grantTo_calm (r : Requester) (s : State) : Calm s (grantTo r s) := by
  cases r <;> exact .of_fields rfl rfl rfl rfl rfl rfl rfl rfl rfl

theorem useClientGrant_seated (p : Port) (q : Request) (s : State) : Seated s (useClientGrant p q s) := by
  unfold useClientGrant
  split
  · split
    · exact (setPort_calm ..).seated
    · exact Calm.seated (.of_fields rfl rfl rfl rfl rfl rfl rfl rfl rfl)
  · split
    · exact Calm.seated (.of_fields rfl rfl rfl rfl rfl rfl rfl rfl rfl)
    · exact applyWrite_seated writeStep6_fits

theorem useGrant_seated (r : Requester) (q : Request) (s : State) : Seated s (useGrant r q s) := by
  cases r with
  | client p => exact useClientGrant_seated p q s
  | engine => exact Calm.seated (.of_fields rfl rfl rfl rfl rfl rfl rfl rfl rfl)

end Cycles

/-! ### Start-up (chapter 7) -/

section StartUp

variable {s t : State}

/-- Before READY nothing is in session, so nothing is LEASED, and the profile and the pins may change. -/
theorem SeatKept.of_unready (hs : s.stage ≠ .operating) (ht : t.stage ≠ .operating) (hfence : t.fence = s.fence)
    (habsorbed : t.absorbed = s.absorbed) (hsqr : t.sqr = s.sqr) (hsessions : t.sessions = s.sessions)
    (hleases : t.leases = s.leases) (htxns : t.txns = s.txns) : SeatKept s t := by
  have hclosed (hopen : ∀ p, OpenLaw s p) (p : Port) : (s.sessions.get p).isSome ≠ true :=
    fun hp => hs (hopen p hp).1
  refine ⟨fun h => ?_, fun h hl w => ?_, fun h => ?_⟩
  · rw [guardLaw_iff] at h ⊢
    obtain ⟨⟨hfenced, hcount⟩, hpairs, hopen⟩ := h
    refine ⟨⟨?_, ?_⟩, fun p => ?_, fun p hp => ?_⟩
    · rw [hfence]
      exact iff_of_false (fun hf => hs (hfenced.mp hf).1) (fun hf => ht hf.1)
    · rw [hfence, habsorbed]
      exact hcount
    · rw [PairLaw, hsqr, hsessions, htxns]
      exact hpairs p
    · rw [hsessions] at hp
      exact absurd hp (hclosed hopen p)
  · rw [leaseLawOf_iff]
    intro r hr
    rw [State.lease, hleases] at hr
    obtain ⟨⟨-, -, -, -, hkey⟩, -⟩ := (leaseLawOf_iff s w).mp (hl w) r hr
    obtain ⟨-, -, hopen⟩ := (guardLaw_iff s).mp h
    refine absurd ?_ (hclosed hopen r.holder)
    rw [← Option.isSome_map, hkey]
    rfl
  · rw [ResponseLaw, hsessions]
    exact h

theorem SeatKept.trans {u : State} (h : SeatKept s t) (k : SeatKept t u) : SeatKept s u where
  guard hs := k.guard (h.guard hs)
  lease hs hl := k.lease (h.guard hs) (h.lease hs hl)
  responses hr := k.responses (h.responses hr)

theorem SeatKept.trans_calm {u : State} (h : SeatKept s t) (k : Calm t u) : SeatKept s u := h.trans k.seated.kept

/-- The blocks at their start-up values: no session, no lease, the fence OPEN. -/
theorem seatLaws_initial (hstage : t.stage = .stopped) (hfence : t.fence = .opened) (habsorbed : t.absorbed = 0#16)
    (hsqr : t.sqr = { a := Sqr.fresh, b := Sqr.fresh }) (hsessions : t.sessions = { a := none, b := none })
    (hleases : t.leases = Vector.replicate 16 .closed) (htxns : t.txns = { a := Txn.empty, b := Txn.empty }) :
    GuardLaw t ∧ LeaseLaw t ∧ ResponseLaw t := by
  refine ⟨(guardLaw_iff t).mpr ⟨⟨?_, fun _ => habsorbed⟩, fun p => ?_, fun p hp => ?_⟩, fun w r hr => ?_,
    (responseLaw_iff t).mpr fun p x hx => ?_⟩
  · rw [hfence, hstage]
    exact iff_of_false (by decide) (fun h => Stage.noConfusion h.1)
  · rw [PairLaw, hsqr, hsessions, htxns]
    cases p <;> decide
  · rw [hsessions] at hp
    cases p <;> cases hp
  · rw [State.lease, hleases, Fin.getElem_fin, Vector.getElem_replicate] at hr
    cases hr
  · rw [hsessions] at hx
    cases p <;> cases hx

theorem SeatKept.of_laws (h : GuardLaw t ∧ LeaseLaw t ∧ ResponseLaw t) : SeatKept s t :=
  ⟨fun _ => h.1, fun _ _ => h.2.1, fun _ => h.2.2⟩

theorem startUp_seatKept (r s : State) : SeatKept r (startUp s) := by
  have hinitial : SeatKept r (initialise s) := .of_laws (seatLaws_initial rfl rfl rfl rfl rfl rfl rfl)
  refine hinitial.trans ?_
  unfold startUp
  dsimp only
  split
  · have hinstalled : SeatKept (initialise s) (installProfile bypassProfile .bypass (initialise s)) :=
      .of_unready Stage.noConfusion Stage.noConfusion rfl rfl rfl rfl rfl rfl
    exact hinstalled.trans_calm ((raise_calm ..).trans (calm_closed.readyRise _))
  split
  · exact .of_unready Stage.noConfusion Stage.noConfusion rfl rfl rfl rfl rfl rfl
  · exact .of_unready Stage.noConfusion Stage.noConfusion rfl rfl rfl rfl rfl rfl

theorem concludeProfile_seatKept (hs : s.stage ≠ .operating) : SeatKept s (concludeProfile s) := by
  unfold concludeProfile
  split
  · have hinstalled : SeatKept s (installProfile (parseProfile s.candidate) .valid s) :=
      .of_unready hs hs rfl rfl rfl rfl rfl rfl
    dsimp only
    split
    · exact hinstalled.trans_calm (calm_closed.readyRise _)
    · exact .of_unready hs Stage.noConfusion rfl rfl rfl rfl rfl rfl
  · next reason item _ =>
    have hinstalled : SeatKept s (installProfile fallbackProfile (.rejected reason) { s with candidate := [] }) :=
      .of_unready hs hs rfl rfl rfl rfl rfl rfl
    exact hinstalled.trans_calm ((raise_calm ..).trans (calm_closed.readyRise _))

theorem takeProfileWord_seatKept (hs : s.stage ≠ .operating) (w : Word) : SeatKept s (takeProfileWord w s) := by
  have hread : SeatKept s { s with candidate := s.candidate ++ [w], inFlight := none } :=
    .of_unready hs hs rfl rfl rfl rfl rfl rfl
  unfold takeProfileWord
  dsimp only
  split
  · exact .of_unready hs hs rfl rfl rfl rfl rfl rfl
  · exact hread.trans (concludeProfile_seatKept hs)

end StartUp

/-! ### The fence (chapter 8) -/

section TheFence

variable {s : State}

theorem pwrgoodMoves_seatKept {level : Bool} (h : s.stage = .operating → (s.fence = .fenced ↔ level = false)) :
    SeatKept s { s with pwrgood := level } := by
  by_cases hs : s.stage = .operating
  · refine Seated.kept ⟨fun hf ho => ⟨⟨?_, hf.2⟩, ho⟩, id, fun _ => id, id⟩
    exact ⟨fun hfenced => ⟨hs, (h hs).mp hfenced⟩, fun hlow => (h hs).mpr hlow.2⟩
  · exact .of_unready hs hs rfl rfl rfl rfl rfl rfl

theorem leaveFence_seated (h : s.fence = .fenced) : Seated s (leaveFence { s with pwrgood := true }) := by
  have hframe : leaveFence { s with pwrgood := true } = { s with
      raised := (leaveFence { s with pwrgood := true }).raised, pwrgood := true, fence := .opened,
      absorbed := 0#16 } := by
    unfold leaveFence
    rw [raise_frame]
  rw [hframe]
  refine ⟨fun _ ho => ⟨⟨iff_of_false Fence.noConfusion (fun hlow => Bool.noConfusion hlow.2), fun _ => rfl⟩,
    fun p hp => ?_⟩, id, fun _ => id, id⟩
  cases h.symm.trans (ho p hp).2

theorem endSession_sessions (p : Port) (c : SessionCause) (s : State) :
    (endSession p c s).sessions = s.sessions.set p none := by
  cases hy : s.sessions.get p with
  | none => rw [endSession_of_none hy, ← hy, PerPort_set_get]
  | some y =>
    rw [endSession_of_some hy]
    obtain ⟨hframe, -⟩ := closeSession_ended p c s
    rw [hframe]

/-- What the entry into the fence comes to after the sessions of A and B have ended (08 R158). -/
theorem fenceEngine_seated (s : State) : Seated s (fenceEngine s) := by
  unfold fenceEngine
  split
  · exact (calm_closed.stopEngine ..).seated
  · exact .refl s

theorem fenceSqr_sessions (p : Port) (s : State) : (fenceSqr p s).sessions = s.sessions := by
  unfold fenceSqr
  split <;> rfl

theorem fenceEngine_isSome (p : Port) (s : State) :
    ((fenceEngine s).sessions.get p).isSome = (s.sessions.get p).isSome := by
  unfold fenceEngine
  split
  · exact (calm_closed.stopEngine ..).isSome p
  · rfl

/-- No session stands once the fence is entered. -/
theorem enterFence_isSome (s : State) (p : Port) : ((enterFence s).sessions.get p).isSome = false := by
  unfold enterFence
  dsimp only
  rw [fenceEngine_isSome, (calm_closed.endQueued _ _).isSome, fenceSqr_sessions, fenceSqr_sessions,
    endSession_sessions, endSession_sessions]
  cases p <;> rfl

theorem enterFence_seated (s : State) : Seated { s with fence := .fenced } (enterFence s) :=
  ((((((raise_seated .fenceEntered .part none 0#16 0#16 { s with fence := .fenced }).trans
    (endSession_seated .a .fence _)).trans (endSession_seated .b .fence _)).trans (fenceSqr_seated .a _)).trans
    (fenceSqr_seated .b _)).trans (calm_closed.endQueued _ .fenced).seated).trans (fenceEngine_seated _)

theorem enterFence_seatKept (hs : s.stage = .operating) : SeatKept s (enterFence { s with pwrgood := false }) := by
  have hseated := enterFence_seated { s with pwrgood := false }
  have hoperates := enterFence_operates { s with pwrgood := false }
  have hfence : (enterFence { s with pwrgood := false }).fence = .fenced := hoperates.fence
  refine ⟨fun h => ?_, fun h => hseated.lease ((guardLaw_iff s).mp h).2.1, hseated.responses⟩
  rw [guardLaw_iff] at h ⊢
  obtain ⟨-, hpairs, -⟩ := h
  refine ⟨⟨iff_of_true hfence ⟨hoperates.stage.trans hs, hoperates.pwrgood⟩, fun hopened => ?_⟩,
    hseated.pairs hpairs, fun p hp => ?_⟩
  · cases hfence.symm.trans hopened
  · cases (enterFence_isSome _ p).symm.trans hp

end TheFence

/-! ### Every effect -/

/-- Every effect keeps the laws of the fence, the sessions, their response queues and the leases. -/
theorem Effect.seatKept {s t : State} (h : Effect s t) : SeatKept s t := by
  have calm {u : State} (hu : Calm s u) : SeatKept s u := hu.seated.kept
  cases h with
  | startsUp => exact startUp_seatKept s _
  | heldInReset pbyp pwrgood => exact .of_laws (seatLaws_initial rfl rfl rfl rfl rfl rfl rfl)
  | resetnFalls left | supplyLost left => exact .of_laws (seatLaws_initial rfl rfl rfl rfl rfl rfl rfl)
  | pwrgoodMoves level unheard => exact pwrgoodMoves_seatKept unheard
  | fenceEntered ready => exact enterFence_seatKept ready
  | fenceLeft fenced => exact (leaveFence_seated fenced).kept
  | waitEnds waits =>
    exact .of_unready (by rw [waits]; decide) Stage.noConfusion rfl rfl rfl rfl rfl rfl
  | profileWord w x stage => exact takeProfileWord_seatKept (by rw [stage]; decide) w
  | headerWord w => exact calm ((setInFlight_calm s _).trans (calm_closed.takeHeaderWord s w))
  | checkWord w => exact calm ((setInFlight_calm s _).trans (calm_closed.takeCheckWord s w))
  | loadWord w => exact calm ((setInFlight_calm s _).trans (calm_closed.takeLoadWord s w))
  | granted r q => exact ((grantTo_calm r s).seated_trans (useGrant_seated r q _)).kept
  | readAnswered p x w => exact calm ((setInFlight_calm s _).trans (setPort_calm ..))
  | writeDone p x d w =>
    have hwritten : Calm s ((s.writeWord x w).setInFlight none) := .of_fields rfl rfl rfl rfl rfl rfl rfl rfl rfl
    exact ((hwritten.seated_trans (spendAt_seated p x _)).trans (settleWrite_seated p x d _)).kept
  | engineWrote w x d v =>
    have hwritten : Calm s ((s.writeWord x v).setInFlight none) := .of_fields rfl rfl rfl rfl rfl rfl rfl rfl rfl
    exact calm (hwritten.trans ((calm_closed.advanceNumber _ w).trans (calm_closed.afterWrite _ w)))
  | engineVerified w x v => exact calm ((setInFlight_calm s _).trans (calm_closed.afterReadBack _ w v))
  | engineTakes => exact calm (calm_closed.engineTake s)
  | cycleTaken p kind x gone => exact ((setPort_calm ..).seated_trans (settleCycle_seated p kind x _)).kept
  | stepTimerEnds p watching =>
    have hs : (s.sqr.get p).state ≠ .session := by rw [watching]; decide
    split
    · exact (countBreak_seated (q := clearedSqr (s.sqr.get p)) hs hs _).kept
    · exact (setSqr_seated_of_ne (q := clearedSqr (s.sqr.get p)) hs hs).kept
  | lockoutEnds p locked =>
    have hs : (s.sqr.get p).state ≠ .session := by rw [locked]; decide
    exact ((setSqr_seated_of_ne (by decide) hs).trans (raise_seated ..)).kept
  | idleTimerEnds p => exact (endSession_seated ..).kept
  | lifetimeEnds w => exact (endLease_seated ..).kept
  | holdoffEnds w => exact (setLease_seated w (l := .closed) nofun).kept
  | arrives n rest =>
    rw [takeNotice_frame]
    exact calm (.of_fields rfl rfl rfl rfl rfl rfl rfl rfl rfl)
  | same | resetnMoves | cycleAbandoned | endingExit =>
    exact calm (.of_fields rfl rfl rfl rfl rfl rfl rfl rfl rfl)

theorem SeatKept.laws {s t : State} (h : SeatKept s t)
    (hs : FenceLaw s ∧ SessionLaw s ∧ ResponseLaw s ∧ LeaseLaw s) :
    FenceLaw t ∧ SessionLaw t ∧ ResponseLaw t ∧ LeaseLaw t := by
  obtain ⟨hfence, hsession, hresponse, hlease⟩ := hs
  obtain ⟨tfence, tsession⟩ := h.guard ⟨hfence, hsession⟩
  exact ⟨tfence, tsession, h.responses hresponse, h.lease ⟨hfence, hsession⟩ hlease⟩

/-- Settles O9: every effect keeps the fence and the sessions together, and with them the queues and the leases. -/
theorem sessionAndLeaseLawsAreKept : Obligations.SessionAndLeaseLawsAreKept := by
  intro s t
  exact law_of_step (Law := fun s => FenceLaw s ∧ SessionLaw s ∧ ResponseLaw s ∧ LeaseLaw s)
    (Kept := fun t => FenceLaw t ∧ SessionLaw t ∧ ResponseLaw t ∧ LeaseLaw t)
    (fun _ _ h => h) (fun _ _ h _ => h) fun _ _ h heffect => heffect.seatKept.laws h

end Sys2Proof.Machine

/-! SUPPORT. Short statements about one command: the step, the strobes and the lines of the ports, the lockout timer,
the exit from the fence, and the event queue. -/

namespace Sys2Proof.Machine

/-! ### The step -/

/-- Settles O1, by the definition of the step. -/
theorem stepPerformsTheFrontCommand : Obligations.StepPerformsTheFrontCommand := fun _ _ _ => rfl

/-- Settles O2: on an empty queue the step is a tick. -/
theorem emptyQueueStepCountsOneMillisecond : Obligations.EmptyQueueStepCountsOneMillisecond := by
  intro s h
  rw [step_nil s h, tick]
  split <;> rfl

/-! ### The laws at reset -/

theorem fresh_progress (k : Fin 4) : Sqr.fresh.progress[k] = 0 := by
  revert k
  decide

/-- A recognizer at its start-up value keeps its law, before READY and with any break threshold but 0. -/
theorem recognizerLawOf_fresh {s : State} {p : Port} (h : s.sqr.get p = Sqr.fresh)
    (hlimit : s.stage = .operating → 0 < s.breakLimit) : RecognizerLawOf s p := by
  rw [RecognizerLawOf, h]
  refine ⟨fun hne => absurd rfl hne, iff_of_false (by decide) (by decide), fun k hk => absurd (fresh_progress k) hk,
    by decide, fun hstage _ => hlimit hstage, ?_, ?_, fun _ => rfl⟩
  · exact fun hlocked => SqrState.noConfusion hlocked
  · exact fun _ => rfl

theorem stagedLaws_reset : ProfileLaw State.reset ∧ StagedLaw State.reset ∧ ClaimLaw State.reset := by
  refine ⟨?_, ?_, ?_⟩
  · simp [ProfileLaw, State.reset]
  · simp [StagedLaw, StagedLawOf, State.reset, onBoth, State.entryCount]
  · simp [ClaimLaw, ClaimLawOf, State.reset, State.claim]

theorem engineLaws_reset : EngineLaws State.reset := by
  refine ⟨?_, ?_, ?_, ?_⟩
  · simp [WordLaw, State.reset, Engine.fresh, State.engineInFlight]
  · simp [CourseLaw, State.reset, Engine.fresh, Recovery.fresh, Engine.ported]
  · simp [SlotLaw, State.reset, Recovery.fresh]
  · simp [CommitLaw, State.reset, Engine.fresh, onBoth, PerPort.get, Txn.empty, inEngine, acceptedState]

/-- Settles O13: at reset every list is empty, every record at rest and no profile in force. -/
theorem lawsHoldAtReset : Obligations.LawsHoldAtReset := by
  obtain ⟨hguard, hlease, hresponse⟩ : GuardLaw State.reset ∧ LeaseLaw State.reset ∧ ResponseLaw State.reset :=
    seatLaws_initial rfl rfl rfl rfl rfl rfl rfl
  obtain ⟨hprofile, hstaged, hclaim⟩ := stagedLaws_reset
  obtain ⟨hword, hcourse, hslot, hcommit⟩ := engineLaws_reset
  have hrecognizer (p : Port) : RecognizerLawOf State.reset p :=
    recognizerLawOf_fresh (by cases p <;> rfl) Stage.noConfusion
  refine ⟨?reset, rfl, rfl, ?event, ?reader, ⟨hrecognizer .a, hrecognizer .b⟩, hguard.1, hguard.2, hresponse, hlease,
    ?cycle, ?upstream, hprofile, hstaged, hclaim, hword, hcourse, hslot, hcommit⟩
  case reset => simp [ResetLaw, State.reset]
  case event => simp [EventLaw, State.reset, Config.recordCapacity]
  case reader => simp [ReaderLaw, State.reset]
  case cycle =>
    simp [CycleLaw, CycleLawOf, State.reset, onBoth, PerPort.get, ClientPort.fresh, State.forwarding]
  case upstream => simp [UpstreamLaw, State.reset, onBoth, PerPort.get]

/-! ### The wait for PWRGOOD -/

/-- Settles O16: in the wait the command begins the profile read, with the level it brings. -/
theorem pwrgoodEndsTheWait : Obligations.PwrgoodEndsTheWait := by
  intro s h
  exact congrArg Host.Outcome.next (if_pos h)

/-! ### Strobes and lines (10 R181 to R185) -/

theorem exec_cycleAbandoned (s : State) (p : Port) : exec (.cycleAbandoned p) s =
    .next (if (s.ports.get p).state = .held then s.setPort p (abandonedPort (s.ports.get p)) else s) := rfl

/-- Bit 19 of an address tells its bank. -/
theorem addr_bank (x : Addr) : x.getLsbD 19 = decide (524288 ≤ x.toNat) := by
  have hlt := x.isLt
  rw [BitVec.getLsbD, Nat.testBit_eq_decide_div_mod_eq]
  exact decide_eq_decide.mpr (by omega)

/-- Bits 18 to 0 of an address stand for its place within the bank. -/
theorem addr_within_bank (x : Addr) : x.extractLsb' 0 19 = BitVec.ofNat 19 (x.toNat % 524288) := by
  apply BitVec.eq_of_toNat_eq
  simp

/-- Settles O36: each command is the update of the port that its cycle state asks for, and each line is read off the
port's state or off the access in flight. -/
theorem strobesAndLinesFollowTheState : Obligations.StrobesAndLinesFollowTheState := by
  refine ⟨fun s p c hheld hcycle => ?_, fun s p h => ?_, fun s p h => ?_, fun s p h => ?_, fun s p => ⟨?_, ?_, ?_⟩,
    fun s h => ?_, fun s y h => ?_⟩
  · rw [exec_cycleAbandoned, if_pos hheld, abandonedPort, hcycle]
    rfl
  · rw [exec_cycleAbandoned, if_neg h]
  · exact congrArg Host.Outcome.next (if_pos h)
  · exact congrArg Host.Outcome.next (if_neg h)
  · simp [State.wait]
  · intro h
    unfold State.dataOut
    split
    · next hst _ => exact absurd hst h
    · rfl
  · intro c hst hc
    simp [State.dataOut, hst, hc]
  · simp [State.ce0n, State.ce1n, State.oen, State.wen, State.memoryAddress, State.memoryData, h]
  · simp only [State.ce0n, State.ce1n, State.oen, State.wen, State.memoryAddress, State.memoryData, h, addr_bank,
      Option.map_some, addr_within_bank]
    refine ⟨trivial, ?_, trivial, fun hkind => ?_, fun d hkind => ?_⟩
    · rw [← decide_not]
      exact decide_eq_decide.mpr Nat.not_le
    · obtain ⟨holder, kind, x⟩ := y
      obtain rfl : kind = .read := hkind
      exact ⟨rfl, rfl, rfl⟩
    · obtain ⟨holder, kind, x⟩ := y
      obtain rfl : kind = .write d := hkind
      exact ⟨rfl, rfl, rfl⟩

/-- Settles O43: the expiry frees the recognizer and raises KEY_LOCKOUT_END. -/
theorem lockoutEnds : Obligations.LockoutEnds := by
  intro s p hlocked htimer
  exact congrArg Host.Outcome.next (if_pos ⟨hlocked, htimer⟩)

/-- Settles O58: a rise while FENCED leaves the fence, and every other change of the level is the level alone. -/
theorem pwrgoodRiseOpensTheFence : Obligations.PwrgoodRiseOpensTheFence := by
  refine ⟨fun s h => ?_, fun s h => ?_, fun level s h => ?_⟩
  · refine congrArg Host.Outcome.next ((if_pos h).trans ?_)
    unfold leaveFence
    rw [raise_told, raise_told]
    rfl
  · exact congrArg Host.Outcome.next (if_neg (by rw [h]; decide))
  · refine congrArg Host.Outcome.next (if_neg ?_)
    simpa [State.ready] using h

/-! ### The event queue (09 R171, R172, R179) -/

/-- A marker that no port has taken counts one more discarded event (09 R173). -/
theorem countDiscard_eq (s : State) (r : EventRecord) : s.countDiscard r =
    if r.notice.name = .overflow ∧ r.notice.audience = s.active.readers then
      { r with notice := { r.notice with lo := if r.notice.lo = 0xFFFF#16 then 0xFFFF#16 else r.notice.lo + 1#16 } }
    else r := by
  rw [State.countDiscard]
  refine if_congr (by simp [isMarker, State.markerUntaken]) ?_ rfl
  rw [satSucc]
  split
  · next h => rw [h]
  · rfl

theorem exec_eventArrival {s : State} {n : Notice} {rest : List Notice} (h : s.raised = n :: rest) :
    exec .eventArrival s = .next (takeNotice n { s with raised := rest }) := by
  change execEventArrival s = _
  rw [execEventArrival, h]

/-- Settles O59: with a marker in the queue the event is counted by each marker untaken; without one it is stored, or
turned into a marker at 31 records. -/
theorem arrivalsAreStoredOrCounted : Obligations.ArrivalsAreStoredOrCounted := by
  intro s n rest h left stored
  rw [exec_eventArrival h]
  have hany : left.records.any isMarker = true ↔ ∃ r ∈ s.records, r.notice.name = .overflow := by
    simp [isMarker, left]
  refine ⟨fun hmarker => ?_, fun hnone => ?_⟩
  · refine congrArg Host.Outcome.next ((if_pos (hany.mpr hmarker)).trans ?_)
    rw [funext (countDiscard_eq left)]
    rfl
  · have htake : takeNotice n left =
        if s.records.length + 1 < Config.recordCapacity then store n left else store left.newMarker left :=
      if_neg (mt hany.mp (by simpa using hnone))
    refine ⟨fun hfew => congrArg _ (htake.trans (if_pos ?_)), fun hfull => congrArg _ (htake.trans (if_neg ?_))⟩
    · exact Nat.lt_succ_of_le (Nat.succ_le_succ hfew)
    · exact Nat.not_lt.mpr (Nat.succ_le_succ hfull)

theorem audience_eq (s : State) (who : Concerned) : s.audience who =
    { a := decide (who = .port .a ∨ who = .part) && s.active.readers.a,
      b := decide (who = .port .b ∨ who = .part) && s.active.readers.b } := by
  rcases who with (_ | _) | _ <;> rfl

/-- Settles O60: an event is raised for its audience or not at all, and ALERT is a search of the records. -/
theorem eventsReachTheReadersConcerned : Obligations.EventsReachTheReadersConcerned := by
  refine ⟨fun s name who w hi lo => ?_, fun s p => ?_⟩
  · dsimp only
    have haudience := audience_eq s who
    refine ⟨fun h => raise_silent name who w hi lo s ?_, fun h => ?_⟩
    · rw [haudience]
      exact h
    · rw [← haudience]
      refine raise_heard name who w hi lo s ?_
      rw [haudience]
      exact h
  · simp [State.alert, maskAdmits]

end Sys2Proof.Machine

/-! SUPPORT. Start-up, reset and the loss of supply (chapter 7): what begins from the start-up values, what ends with
the activity of the blocks, and the profile read. -/

namespace Sys2Proof.Machine

/-! ### Start-up (07 R135 to R139) -/

section StartUp

variable {s : State}

theorem exec_powerUp (h : s.stage = .stopped) (pbyp pwrgood resetn : Bool) :
    exec (.powerUp pbyp pwrgood resetn) s =
      .next (if resetn then startUp { s with supply := true, resetn := resetn, pwrgood := pwrgood, pbyp := pbyp }
        else initialise { s with supply := true, resetn := resetn, pwrgood := pwrgood, pbyp := pbyp }) :=
  congrArg Host.Outcome.next (if_pos h)

theorem exec_resetnRise (hsupply : s.supply = true) (hresetn : s.resetn = false) (pbyp pwrgood : Bool) :
    exec (.resetnRise pbyp pwrgood) s = .next (startUp { s with resetn := true, pwrgood := pwrgood, pbyp := pbyp }) :=
  congrArg Host.Outcome.next (if_pos ⟨hsupply, hresetn⟩)

/-- Under the built-in profiles both ports are readers, so an event of the part is told to both. -/
theorem told_bypass (h : s.profile = some bypassProfile) (n : EventName) (w : Option (Fin 16)) (hi lo : Word) :
    s.told n .part w hi lo =
      [{ name := n, who := .part, window := w, hi := hi, lo := lo, audience := { a := true, b := true } }] := by
  have haudience : s.audience .part = { a := true, b := true } := by
    rw [audience_eq, State.active, h]
    rfl
  rw [State.told, State.noticeOf, haudience]
  rfl

/-- STARTED under the bypass profile reports the status BYPASS (07 R155). -/
theorem told_started_bypass (h : s.profile = some bypassProfile) (hstatus : s.profileStatus = .bypass) (lo : Word) :
    s.told .started .part none (startedDetail s.profileStatus) lo =
      [{ name := .started, who := .part, window := none, hi := 0x2000#16, lo := lo,
         audience := { a := true, b := true } }] := by
  have hdetail : startedDetail .bypass = 0x2000#16 := by decide
  rw [told_bypass h, hstatus, hdetail]

end StartUp

/-- Settles O14: start-up from the start-up values does not depend on what the part held before. -/
theorem startUpBeginsFromStartUpState : Obligations.StartUpBeginsFromStartUpState := by
  refine ⟨⟨fun pwrgood s h => ?_, fun pbyp pwrgood s h => ?_, fun pbyp pwrgood s h hsupply hresetn => ?_⟩,
    fun pwrgood s h => ?_⟩
  · rw [exec_powerUp h]
    cases pwrgood <;> rfl
  · rw [exec_powerUp h]
    rfl
  · rw [exec_powerUp h, exec_resetnRise hsupply hresetn, if_pos rfl, ← hsupply]
  · rw [exec_powerUp h]
    refine congrArg Host.Outcome.next ?_
    change startBypass (initialise _) = _
    rw [startBypass, raise_told, told_bypass rfl, readyRiseReports, told_started_bypass rfl rfl, told_bypass rfl]
    cases pwrgood <;> rfl

/-! ### The end of activity (07 R135) -/

theorem finishWrite_of_write {s : State} {x : Access} {d : Word} (h : s.inFlight = some x) (hx : x.kind = .write d)
    (left : Word → Word → Word) :
    finishWrite left s = s.writeWord x.addr (left (s.readWord x.addr) d) := by
  obtain ⟨holder, kind, addr⟩ := x
  obtain rfl : kind = .write d := hx
  simp only [finishWrite, h]

theorem finishWrite_of_no_write {s : State} (h : ∀ x d, s.inFlight = some x → x.kind ≠ .write d)
    (left : Word → Word → Word) : finishWrite left s = s := by
  unfold finishWrite
  split
  · next d x hx => exact absurd rfl (h _ d hx)
  · rfl

theorem finishWrite_frame (left : Word → Word → Word) (s : State) :
    finishWrite left s = { s with memory := (finishWrite left s).memory } := by
  unfold finishWrite
  split <;> rfl

theorem stoppedPort_of_held {c : ClientPort} {y : Cycle} (hheld : c.state = .held) (hcycle : c.cycle = some y) :
    stoppedPort c = if y.abandoned then ClientPort.fresh
      else { state := .ending, early := 0#16,
             cycle := some { y with answer := match y.kind with
              | .read => some 0xFFFF#16
              | .write _ => none } } := by
  rw [stoppedPort, hheld, hcycle]
  dsimp only
  rw [completedPort_closed _ c y hcycle, closedPort]
  split
  · rfl
  · obtain ⟨kind, addr, answer, abandoned⟩ := y
    cases kind <;> rfl

theorem stoppedPort_of_not_held {c : ClientPort} (h : c.state ≠ .held) : stoppedPort c = { c with early := 0#16 } := by
  unfold stoppedPort
  split
  · next heq _ => exact absurd heq h
  · rfl

theorem cycleStopped_of_stoppedPort {s t : State} {p : Port} (h : t.ports.get p = stoppedPort (s.ports.get p)) :
    CycleStopped s t p := by
  rw [CycleStopped, h]
  exact ⟨fun y => stoppedPort_of_held, stoppedPort_of_not_held⟩

/-- The end of activity, after a write under way has been left in memory, with the pins as they then are. -/
theorem endActivity_ended {s t u : State} (hu : u = { s with memory := u.memory })
    (ht : t = { endActivity u with supply := t.supply, resetn := t.resetn }) : ActivityEnded s t := by
  have hports : t.ports = { a := stoppedPort u.ports.a, b := stoppedPort u.ports.b } := (congrArg State.ports ht :)
  have hmemory : t.memory = u.memory := (congrArg State.memory ht :)
  refine ⟨ht.trans ?_, cycleStopped_of_stoppedPort ?_, cycleStopped_of_stoppedPort ?_⟩
  · rw [hports, hmemory, hu]
    rfl
  · rw [hports, hu]
    rfl
  · rw [hports, hu]
    rfl

/-- Settles O15: the write under way is finished, as the device or the loss of supply leaves it, and then activity
ends. -/
theorem resetAndSupplyLossEndActivity : Obligations.ResetAndSupplyLossEndActivity := by
  refine ⟨fun answer s hsupply hresetn => ⟨_, congrArg Host.Outcome.next (if_pos ⟨hsupply, hresetn⟩), ?_⟩,
    fun landed s hsupply => ⟨_, congrArg Host.Outcome.next (if_pos hsupply), ?_⟩⟩
  · have hframe := finishWrite_frame (fun _ d => wordLeft answer d) s
    refine ⟨endActivity_ended hframe rfl, ?_, rfl, rfl, rfl, rfl, fun x d hx hd => ?_, fun hnone => ?_⟩
    · exact (congrArg State.supply hframe :).trans hsupply
    · exact (congrArg State.memory (finishWrite_of_write hx hd _) :).trans (by cases answer <;> rfl)
    · exact (congrArg State.memory (finishWrite_of_no_write hnone _) :)
  · have hframe := finishWrite_frame (fun old d => if landed then d else old) s
    refine ⟨endActivity_ended hframe rfl, rfl, ?_, rfl, fun x d hx hd => ?_, fun hnone => ?_⟩
    · exact (congrArg State.resetn hframe :)
    · exact (congrArg State.memory (finishWrite_of_write hx hd _) :)
    · exact (congrArg State.memory (finishWrite_of_no_write hnone _) :)

/-! ### The profile read (07 R140 to R145) -/

section ProfileRead

variable {s : State}

theorem wordReturned_eq (answer : MemoryAnswer) (m : Memory) (x : Addr) : wordReturned answer m x =
    match answer with
    | .sound => memRead m x.toNat
    | .faulty w => w := by
  cases answer <;> rfl

theorem exec_profileWordRead {x : Addr} (hstage : s.stage = .profileRead)
    (hread : s.inFlight = some { holder := .engine, kind := .read, addr := x }) (answer : MemoryAnswer) :
    exec (.profileWordRead answer) s = .next (takeProfileWord (wordReturned answer s.memory x) s) := by
  change execProfileWordRead answer s = _
  rw [execProfileWordRead, hstage, engineRead_of_inFlight hread]

theorem concludeProfile_of_rejected {r : RejectReason} {item : Word}
    (h : validateProfile s.candidate = some (r, item)) :
    concludeProfile s = readyRise (raise .profileRejected .part none ((rejectCode r).setWidth 16) item
      (installProfile fallbackProfile (.rejected r) { s with candidate := [] })) := by
  rw [concludeProfile, h]

theorem concludeProfile_of_valid (h : validateProfile s.candidate = none) :
    concludeProfile s =
      if (parseProfile s.candidate).journalCapacity.toNat = 0 then
        readyRise (installProfile (parseProfile s.candidate) .valid s)
      else beginRecovery (installProfile (parseProfile s.candidate) .valid s) := by
  rw [concludeProfile, h]
  rfl

theorem journalAddr_zero (s : State) : s.journalAddr 0 = s.active.journalBase := BitVec.add_zero _

end ProfileRead

/-- Settles O17: a word that is not the last asks for the next; after the last the candidate is judged, and what it is
judged decides how start-up goes on. -/
theorem profileWordsAreReadAndJudged : Obligations.ProfileWordsAreReadAndJudged := by
  intro answer s x hstage hread word candidate read
  have hexec : exec (.profileWordRead answer) s = .next (takeProfileWord word s) :=
    (exec_profileWordRead hstage hread answer).trans
      (congrArg (fun v => Host.Outcome.next (takeProfileWord v s)) (wordReturned_eq ..))
  refine ⟨fun hmore => hexec.trans (congrArg Host.Outcome.next (if_pos hmore)), fun h => ?_⟩
  have hlast : exec (.profileWordRead answer) s = .next (concludeProfile read) :=
    hexec.trans (congrArg Host.Outcome.next (if_neg (Nat.not_lt.mpr h)))
  refine ⟨fun r item hrejected => hlast.trans (congrArg Host.Outcome.next ?_),
    fun hvalid => ⟨fun hnone => hlast.trans (congrArg Host.Outcome.next ?_),
      fun hsome => hlast.trans (congrArg Host.Outcome.next ?_)⟩⟩
  · exact concludeProfile_of_rejected hrejected
  · exact (concludeProfile_of_valid hvalid).trans (if_pos (congrArg BitVec.toNat hnone))
  · refine (concludeProfile_of_valid hvalid).trans ((if_neg (mt (BitVec.eq_of_toNat_eq (y := 0#16)) hsome)).trans ?_)
    rw [beginRecovery, journalAddr_zero]
    rfl

end Sys2Proof.Machine

/-! SUPPORT. The validation of a candidate (07 Table 7-4): what each check answers, in terms of the words that windows
and the journal area share. -/

namespace Sys2Proof.Machine

/-! ### Searches of the windows and the keys -/

theorem allWindows_find?_of_first {f : Fin 16 → Bool} {w : Fin 16} (hw : f w = true) (h : ∀ v < w, ¬ f v = true) :
    allWindows.find? f = some w := by
  have hall : allWindows = List.finRange 16 := rfl
  rw [hall, List.find?_eq_some_iff_getElem]
  refine ⟨hw, w.val, by simp, by simp, fun j hj => ?_⟩
  simpa using h ⟨j, by omega⟩ hj

theorem allWindows_find?_eq_none {f : Fin 16 → Bool} : allWindows.find? f = none ↔ ∀ w, ¬ f w = true := by
  rw [List.find?_eq_none]
  exact ⟨fun h w => h w (mem_allWindows w), fun h w _ => h w⟩

theorem allWindows_any {f : Fin 16 → Bool} : allWindows.any f = true ↔ ∃ w, f w = true := by
  simp [mem_allWindows]

/-! ### Windows (checks 5 and 6) -/

section Windows

variable (f : Profile)

/-- An enabled window with its base above its limit. -/
def emptyRange (w : Fin 16) : Prop :=
  f.windows[w].enable = true ∧ f.windows[w].limit.toNat < f.windows[w].base.toNat

/-- A window covers an address. -/
def coversWord (w : Fin 16) (x : Addr) : Prop :=
  f.windows[w].enable = true ∧ f.windows[w].base.toNat ≤ x.toNat ∧ x.toNat ≤ f.windows[w].limit.toNat

/-- A window shares a word with one of a higher number. -/
def sharesWord (v : Fin 16) : Prop := ∃ w, v < w ∧ ∃ x, coversWord f v x ∧ coversWord f w x

variable {f}

theorem checkRange_of_first {w : Fin 16} (hw : emptyRange f w) (h : ∀ v < w, ¬ emptyRange f v) :
    checkRange f = some (.windowRange, BitVec.ofNat 16 w.val) := by
  have hbad (v : Fin 16) : (f.windows[v].enable && decide (f.windows[v].limit.toNat < f.windows[v].base.toNat)) = true ↔
      emptyRange f v := by simp [emptyRange]
  rw [checkRange, allWindows_find?_of_first ((hbad w).mpr hw) fun v hv => mt (hbad v).mp (h v hv)]
  rfl

theorem checkRange_eq_none : checkRange f = none ↔ ∀ w, ¬ emptyRange f w := by
  rw [checkRange, Option.map_eq_none_iff, allWindows_find?_eq_none]
  simp [emptyRange]

/-- Two windows that are not empty share a word exactly when each begins at or below the end of the other. -/
theorem windowsOverlap_iff {v w : Fin 16} (hv : ¬ emptyRange f v) (hw : ¬ emptyRange f w) :
    windowsOverlap f.windows[v] f.windows[w] = true ↔ ∃ x, coversWord f v x ∧ coversWord f w x := by
  simp only [emptyRange, not_and, Nat.not_lt] at hv hw
  simp only [windowsOverlap, windowMeets, Bool.and_eq_true, decide_eq_true_eq, coversWord]
  constructor
  · rintro ⟨hve, ⟨hwe, hwv⟩, hvw⟩
    by_cases hle : f.windows[v].base.toNat ≤ f.windows[w].base.toNat
    · exact ⟨f.windows[w].base, ⟨hve, hle, hwv⟩, hwe, Nat.le_refl _, hw hwe⟩
    · exact ⟨f.windows[v].base, ⟨hve, Nat.le_refl _, hv hve⟩, hwe, by omega, hvw⟩
  · rintro ⟨x, ⟨hve, hvx, hxv⟩, hwe, hwx, hxw⟩
    exact ⟨hve, ⟨hwe, by omega⟩, by omega⟩

theorem anyOverlap_iff (hrange : ∀ w, ¬ emptyRange f w) (v : Fin 16) :
    allWindows.any (fun j => decide (v < j) && windowsOverlap f.windows[v] f.windows[j]) = true ↔ sharesWord f v := by
  rw [allWindows_any]
  refine exists_congr fun w => ?_
  rw [Bool.and_eq_true, decide_eq_true_eq, windowsOverlap_iff (hrange v) (hrange w)]

theorem checkOverlap_of_first (hrange : ∀ w, ¬ emptyRange f w) {v : Fin 16} (hv : sharesWord f v)
    (h : ∀ u < v, ¬ sharesWord f u) : checkOverlap f = some (.windowOverlap, BitVec.ofNat 16 v.val) := by
  have hshare (u : Fin 16) := anyOverlap_iff hrange u
  rw [checkOverlap, allWindows_find?_of_first ((hshare v).mpr hv) fun u hu => mt (hshare u).mp (h u hu)]
  rfl

theorem checkOverlap_eq_none (hrange : ∀ w, ¬ emptyRange f w) : checkOverlap f = none ↔ ∀ v, ¬ sharesWord f v := by
  rw [checkOverlap, Option.map_eq_none_iff, allWindows_find?_eq_none]
  exact forall_congr' fun v => not_congr (anyOverlap_iff hrange v)

end Windows

/-! ### The journal area (checks 7, 8 and 10) -/

section Area

variable (f : Profile)

/-- A word number lies in the journal area. -/
def inArea (n : Nat) : Prop :=
  f.journalCapacity.toNat ≠ 0 ∧ f.journalBase.toNat ≤ n ∧
    n < f.journalBase.toNat + 8 + 3 * f.journalCapacity.toNat

/-- An enabled window shares a word with the journal area. -/
def meetsArea (w : Fin 16) : Prop :=
  ∃ n, inArea f n ∧ f.windows[w].enable = true ∧ f.windows[w].base.toNat ≤ n ∧ n ≤ f.windows[w].limit.toNat

/-- The area runs past the top, into words 0 to 511 or into a window. -/
def misplaced : Prop := ∃ n, inArea f n ∧ (1048576 ≤ n ∨ n < 512 ∨ ∃ w, meetsArea f w)

variable {f}

theorem capacity_ne_iff : f.journalCapacity ≠ 0#16 ↔ f.journalCapacity.toNat ≠ 0 :=
  not_congr ⟨fun h => congrArg BitVec.toNat h, fun h => BitVec.eq_of_toNat_eq h⟩

/-- A window that is not empty meets the area exactly when each begins at or below the end of the other. -/
theorem windowMeets_area_iff (hj : f.journalCapacity.toNat ≠ 0) {w : Fin 16} (hw : ¬ emptyRange f w) :
    windowMeets f.windows[w] f.journalBase.toNat (journalLast f) = true ↔ meetsArea f w := by
  simp only [emptyRange, not_and, Nat.not_lt] at hw
  simp only [windowMeets, Bool.and_eq_true, decide_eq_true_eq, meetsArea, inArea]
  have hlast : journalLast f = f.journalBase.toNat + 7 + 3 * f.journalCapacity.toNat := rfl
  constructor
  · rintro ⟨⟨henable, hlow⟩, hhigh⟩
    have hnonempty := hw henable
    refine ⟨max f.journalBase.toNat f.windows[w].base.toNat, ⟨hj, ?_, ?_⟩, henable, ?_, ?_⟩
    all_goals omega
  · rintro ⟨n, ⟨-, hbase, htop⟩, henable, hlow, hhigh⟩
    exact ⟨⟨henable, by omega⟩, by omega⟩

theorem journalMeets_of_first (hj : f.journalCapacity.toNat ≠ 0) (hrange : ∀ w, ¬ emptyRange f w) {w : Fin 16}
    (hw : meetsArea f w) (h : ∀ v < w, ¬ meetsArea f v) : journalMeets f = some w :=
  allWindows_find?_of_first ((windowMeets_area_iff hj (hrange w)).mpr hw)
    fun v hv => mt (windowMeets_area_iff hj (hrange v)).mp (h v hv)

theorem journalMeets_eq_none (hj : f.journalCapacity.toNat ≠ 0) (hrange : ∀ w, ¬ emptyRange f w) :
    journalMeets f = none ↔ ∀ w, ¬ meetsArea f w :=
  allWindows_find?_eq_none.trans (forall_congr' fun w => not_congr (windowMeets_area_iff hj (hrange w)))

/-- Check 7 fails exactly for a misplaced area. -/
theorem place_iff (hrange : ∀ w, ¬ emptyRange f w) :
    (f.journalCapacity ≠ 0#16 ∧
      (Config.memoryWords ≤ journalLast f ∨ (journalMeets f).isSome = true ∨ f.journalBase.toNat < 512)) ↔
      misplaced f := by
  rw [capacity_ne_iff]
  constructor
  · rintro ⟨hj, htop | hmeets | hlow⟩
    · refine ⟨journalLast f, ⟨hj, ?_, ?_⟩, .inl htop⟩ <;> unfold journalLast <;> omega
    · refine ⟨f.journalBase.toNat, ⟨hj, by omega, by omega⟩, .inr (.inr ?_)⟩
      by_contra hnone
      rw [(journalMeets_eq_none hj hrange).mpr (not_exists.mp hnone)] at hmeets
      cases hmeets
    · exact ⟨f.journalBase.toNat, ⟨hj, by omega, by omega⟩, .inr (.inl hlow)⟩
  · rintro ⟨n, ⟨hj, hbase, htop⟩, hpast | hlow | ⟨w, hw⟩⟩
    · exact ⟨hj, .inl (by unfold journalLast Config.memoryWords; omega)⟩
    · exact ⟨hj, .inr (.inr (by omega))⟩
    · refine ⟨hj, .inr (.inl ?_)⟩
      rw [Option.isSome_iff_ne_none]
      exact fun hnone => (journalMeets_eq_none hj hrange).mp hnone w hw

theorem checkPlace_of_misplaced (hrange : ∀ w, ¬ emptyRange f w) (h : misplaced f) :
    checkPlace f = some (.journalPlace, match journalMeets f with
      | some i => BitVec.ofNat 16 i.val
      | none => noItem) :=
  if_pos ((place_iff hrange).mpr h)

theorem checkPlace_of_placed (hrange : ∀ w, ¬ emptyRange f w) (h : ¬ misplaced f) : checkPlace f = none :=
  if_neg (mt (place_iff hrange).mp h)

theorem commandInJournal_iff (p : Port) : commandInJournal f p = true ↔ inArea f (f.command.get p).toNat := by
  simp [commandInJournal, inJournalArea, inArea, and_assoc]

end Area

/-! ### Keys and ranges (checks 9 and 11) -/

section Values

variable {f : Profile}

theorem badKey_iff (k : Fin 4) :
    (decide (f.keys[k].stepCount.toNat = 1) || decide (8 < f.keys[k].stepCount.toNat)) = true ↔
      f.keys[k].stepCount.toNat = 1 ∨ 8 < f.keys[k].stepCount.toNat := by simp

theorem checkKeys_of_lowest {k : Fin 4} (hk : f.keys[k].stepCount.toNat = 1 ∨ 8 < f.keys[k].stepCount.toNat)
    (h : ∀ i < k, ¬ (f.keys[i].stepCount.toNat = 1 ∨ 8 < f.keys[i].stepCount.toNat)) :
    checkKeys f = some (.keySteps, BitVec.ofNat 16 k.val) := by
  rw [checkKeys, allKeys_find?_of_lowest ((badKey_iff k).mpr hk) fun i hi => mt (badKey_iff i).mp (h i hi)]
  rfl

theorem checkKeys_eq_none :
    checkKeys f = none ↔ ∀ k : Fin 4, ¬ (f.keys[k].stepCount.toNat = 1 ∨ 8 < f.keys[k].stepCount.toNat) := by
  rw [checkKeys, Option.map_eq_none_iff, List.find?_eq_none]
  exact ⟨fun h k => mt (badKey_iff k).mpr (h k (mem_allKeys k)), fun h k _ => mt (badKey_iff k).mp (h k)⟩

theorem inRange_iff (w : Word) (high : Nat) : inRange w high = true ↔ 1 ≤ w.toNat ∧ w.toNat ≤ high := by
  simp [inRange]

/-- Every timer value, the break threshold, the holdoffs and the background policy word in range. -/
def TimersRanged (f : Profile) (background : Word) : Prop :=
  (1 ≤ f.stepTime.toNat ∧ f.stepTime.toNat ≤ 255) ∧ (1 ≤ f.breakLimit.toNat ∧ f.breakLimit.toNat ≤ 15) ∧
  (1 ≤ f.lockoutTime.toNat ∧ f.lockoutTime.toNat ≤ 255) ∧ (1 ≤ f.sessionIdle.toNat ∧ f.sessionIdle.toNat ≤ 255) ∧
  (∀ w : Fin 16, f.windows[w].holdoff.toNat ≤ 255) ∧ background.toNat ≤ 1

theorem timersRanged_iff (background : Word) :
    (inRange f.stepTime 255 && inRange f.breakLimit 15 && inRange f.lockoutTime 255 && inRange f.sessionIdle 255
      && allWindows.all (fun i => decide (f.windows[i].holdoff.toNat ≤ 255)) && decide (background.toNat ≤ 1)) = true ↔
      TimersRanged f background := by
  simp [inRange_iff, TimersRanged, mem_allWindows, and_assoc]

theorem checkTimers_of_ranged {background : Word} (h : TimersRanged f background) : checkTimers f background = none :=
  if_pos ((timersRanged_iff background).mpr h)

theorem checkTimers_of_not_ranged {background : Word} (h : ¬ TimersRanged f background) :
    checkTimers f background = some (.timerRange, noItem) :=
  if_neg (mt (timersRanged_iff background).mp h)

end Values

/-! ### The first check that fails (07 R141) -/

section Validate

variable {ws : List Word}

theorem checkHeader_eq_none (h0 : candidateWord ws 0 = 0x5744#16) (h1 : candidateWord ws 1 = 1#16)
    (h2 : candidateWord ws 2 = 272#16) (h3 : crc16 (ws.set 3 0#16) = candidateWord ws 3) : checkHeader ws = none := by
  simp [checkHeader, h0, h1, h2, profileCrc, h3]

theorem validateProfile_eq (ws : List Word) : validateProfile ws =
    (checkHeader ws).or ((checkRange (parseProfile ws)).or ((checkOverlap (parseProfile ws)).or
      ((checkPlace (parseProfile ws)).or ((checkSize (parseProfile ws)).or ((checkKeys (parseProfile ws)).or
        ((checkCommand (parseProfile ws)).or (checkTimers (parseProfile ws) (candidateWord ws 8)))))))) := rfl

end Validate

/-- Settles O18: each leaf of the statement is one check of the table, failing with its first item or passing. -/
theorem validationReportsTheFirstFailingCheck : Obligations.ValidationReportsTheFirstFailingCheck := by
  intro ws f answers covers first empties shares base j area meets badPlace badKey ranged timers fromKeys fromJournal
    fromWindows
  have hv := validateProfile_eq ws
  have hfailed {a : Rejection} (h : checkHeader ws = some a) : answers (some a) := hv.trans (by rw [h]; rfl)
  refine ⟨fun h0 => hfailed (if_pos h0), fun h0 => ⟨fun h1 => hfailed ?_, fun h1 => ⟨fun h2 => hfailed ?_,
    fun h2 => ⟨fun h3 => hfailed ?_, fun h3 => ?_⟩⟩⟩⟩
  · simp [checkHeader, h0, h1, noItem]
  · simp [checkHeader, h0, h1, h2, noItem]
  · simp [checkHeader, h0, h1, h2, profileCrc, h3, noItem]
  have hheader := checkHeader_eq_none h0 h1 h2 h3
  refine ⟨fun w hw => hv.trans ?_, fun hrange => ?_⟩
  · rw [hheader, checkRange_of_first hw.1 hw.2]
    rfl
  have hwindows := checkRange_eq_none.mpr hrange
  refine ⟨fun v hshares => hv.trans ?_, fun hapart => ?_⟩
  · rw [hheader, hwindows, checkOverlap_of_first hrange hshares.1 hshares.2]
    rfl
  have hoverlap := (checkOverlap_eq_none hrange).mpr hapart
  refine ⟨fun hbad => ?_, fun hplaced => ?_⟩
  · have hj : (parseProfile ws).journalCapacity.toNat ≠ 0 := by
      obtain ⟨n, ⟨hj, -⟩, -⟩ := hbad
      exact hj
    refine ⟨fun w hw => hv.trans ?_, fun hnone => hv.trans ?_⟩
    · rw [hheader, hwindows, hoverlap, checkPlace_of_misplaced hrange hbad,
        journalMeets_of_first hj hrange hw.1 hw.2]
      rfl
    · rw [hheader, hwindows, hoverlap, checkPlace_of_misplaced hrange hbad,
        (journalMeets_eq_none hj hrange).mpr hnone]
      rfl
  have hplace := checkPlace_of_placed hrange hplaced
  refine ⟨fun hsize => hv.trans ?_, fun hsize => ?_⟩
  · rw [hheader, hwindows, hoverlap, hplace, checkSize, if_neg hsize]
    rfl
  have hsized : checkSize (parseProfile ws) = none := if_pos hsize
  refine ⟨fun k hk hlow => hv.trans ?_, fun hkeys => ?_⟩
  · rw [hheader, hwindows, hoverlap, hplace, hsized, checkKeys_of_lowest hk hlow]
    rfl
  have hstepped := checkKeys_eq_none.mpr hkeys
  have hcommand (p : Port) := commandInJournal_iff (f := parseProfile ws) p
  refine ⟨fun ha => hv.trans ?_, fun ha hb => hv.trans ?_, fun ha hb => ?_⟩
  · rw [hheader, hwindows, hoverlap, hplace, hsized, hstepped, checkCommand, if_pos ((hcommand .a).mpr ha)]
    rfl
  · rw [hheader, hwindows, hoverlap, hplace, hsized, hstepped, checkCommand, if_neg (mt (hcommand .a).mp ha),
      if_pos ((hcommand .b).mpr hb)]
    rfl
  have hclear : checkCommand (parseProfile ws) = none :=
    (if_neg (mt (hcommand .a).mp ha)).trans (if_neg (mt (hcommand .b).mp hb))
  refine ⟨fun htimers => hv.trans ?_, fun htimers => hv.trans ?_⟩
  · rw [hheader, hwindows, hoverlap, hplace, hsized, hstepped, hclear, checkTimers_of_not_ranged htimers]
    rfl
  · rw [hheader, hwindows, hoverlap, hplace, hsized, hstepped, hclear, checkTimers_of_ranged htimers]
    rfl

end Sys2Proof.Machine

/-! SUPPORT. Journal recovery (chapter 7): the words of its three passes, what a header and a checked log come to, and
the word the engine then has in hand. -/

namespace Sys2Proof.Machine

/-! ### A word placed in hand (06 R114) -/

section PlaceWord

variable (role : WordRole) (s : State)

theorem placeWord_hasInHand : (placeWord role s).hasInHand role (s.roleAddr role) (s.roleValue role) := ⟨rfl, rfl⟩

theorem placeWord_state : (placeWord role s).engine.state = s.engine.state := rfl

end PlaceWord

/-- JOURNAL_DAMAGED, and the clearing word in hand (07 R149). -/
theorem findDamaged_spec (reason : Word) (s : State) :
    (findDamaged reason s).hasInHand .damagedClear (s.active.journalBase + 0#20) 0x5AA5#16 ∧
    (findDamaged reason s).engine.state = .clearing ∧ (findDamaged reason s).recovery.phase = .none ∧
    (findDamaged reason s).raised = (raise .journalDamaged .part none reason (s.headerRead 1) s).raised ∧
    findDamaged reason s = { s with
      engine := (findDamaged reason s).engine, waiting := (findDamaged reason s).waiting,
      recovery := (findDamaged reason s).recovery, raised := (findDamaged reason s).raised } := by
  have hfound : findDamaged reason s = placeWord .damagedClear (setEngineState .clearing { (setPhase .none s) with
      raised := s.raised ++ s.told .journalDamaged .part none reason (s.headerRead 1) }) :=
    congrArg (fun t => placeWord .damagedClear (setEngineState .clearing t)) (raise_told ..)
  rw [hfound, raise_told]
  exact ⟨⟨rfl, rfl⟩, rfl, rfl, rfl, rfl⟩

/-! ### The header (07 R146 to R149) -/

section Header

variable {s : State}

theorem takeHeaderWord_of_more {w : Word} (h : (s.recovery.header ++ [w]).length < 5) :
    takeHeaderWord w s = { s with
      inFlight := none, recovery := { s.recovery with header := s.recovery.header ++ [w] },
      waiting := { s.waiting with
        engine := some
          { kind := .read, addr := s.active.journalBase + BitVec.ofNat 20 (s.recovery.header ++ [w]).length } } } :=
  if_pos h

theorem takeHeaderWord_of_last {w : Word} (h : ¬ (s.recovery.header ++ [w]).length < 5) :
    takeHeaderWord w s = classifyHeader
      { s with recovery := { s.recovery with header := s.recovery.header ++ [w] }, inFlight := none } :=
  if_neg h

theorem classifyHeader_of_unformatted (hlogged : s.headerRead 0 ≠ Config.loggedWord)
    (hclear : s.headerRead 0 ≠ Config.clearWord) :
    classifyHeader s = placeWord (.format 1) (setEngineState .clearing (setPhase .none s)) := by
  rw [classifyHeader, if_neg hlogged, if_neg hclear]

theorem classifyHeader_of_logged (h : s.headerRead 0 = Config.loggedWord) : classifyHeader s = checkLogged s :=
  if_pos h

end Header

/-- Settles O21: a header word that is not the fifth asks for the next; the fifth has the state word classify the
header, and a LOGGED header is checked for its count and then for its CRC. -/
theorem headerIsReadAndClassified : Obligations.HeaderIsReadAndClassified := by
  intro s x hphase hread header read
  have hexec := exec_journalHeaderRead_of_header hphase hread
  refine ⟨fun hmore => hexec.trans (congrArg _ (takeHeaderWord_of_more hmore)), fun w0 w1 w2 w3 w4 hheader => ?_⟩
  have hlast : exec .journalHeaderRead s = .next (classifyHeader read) := by
    refine hexec.trans (congrArg _ (takeHeaderWord_of_last ?_))
    change ¬ header.length < 5
    rw [hheader]
    exact Nat.lt_irrefl 5
  have hword (h : Nat) : read.headerRead h = wordAt [w0, w1, w2, w3, w4] h := congrArg (wordAt · h) hheader
  refine ⟨fun hlogged hclear => ?_, fun hlogged => ?_⟩
  · refine ⟨_, hlast.trans (congrArg _ (classifyHeader_of_unformatted ?_ ?_)), ?_⟩
    · rwa [hword]
    · rwa [hword]
    · exact ⟨placeWord_hasInHand .., rfl, rfl, rfl, rfl⟩
  · subst hlogged
    have hchecked := hlast.trans (congrArg _ (classifyHeader_of_logged (hword 0)))
    intro damaged
    have hdamaged (reason : Word) (h : checkLogged read = findDamaged reason read) : damaged reason := by
      obtain ⟨hhand, hstate, hpass, hraised, hframe⟩ := findDamaged_spec reason read
      refine ⟨_, hchecked.trans (congrArg _ h), hhand, hstate, hpass, hraised.trans ?_, hframe⟩
      rw [hword, raise_told, raise_told]
      rfl
    have hcount : read.loggedCount = w2.toNat := congrArg BitVec.toNat (hword 2)
    have hcrcGood : read.headerCrcGood = decide (crc16 [0xA55A#16, w1, w2, w3] = w4) := by
      rw [State.headerCrcGood, hword, hword, hword, hword]
      rfl
    refine ⟨fun hbad => hdamaged _ (if_pos ?count), fun hsome hfits => ?_⟩
    case count =>
      rw [hcount]
      exact hbad.imp_left (congrArg BitVec.toNat)
    have hcounted : ¬ (read.loggedCount = 0 ∨ read.journalEntries < read.loggedCount) := by
      rw [hcount, not_or]
      exact ⟨mt (BitVec.eq_of_toNat_eq (y := 0#16)) hsome, Nat.not_lt.mpr hfits⟩
    refine ⟨fun hcrc => hdamaged _ ((if_neg hcounted).trans (if_pos ?_)),
      fun hcrc => hchecked.trans (congrArg _ ((if_neg hcounted).trans (if_neg ?_)))⟩
    · simp [hcrcGood, hcrc]
    · simp [hcrcGood, hcrc]

/-! ### The checking pass (07 R149 (c)) -/

section Check

variable {s : State}

theorem exec_journalSlotCheckRead_of_check {x : Addr} (hphase : s.recovery.phase = .check)
    (hread : s.inFlight = some { holder := .engine, kind := .read, addr := x }) :
    exec .journalSlotCheckRead s = .next (takeCheckWord (memRead s.memory x.toNat) s) := by
  change execJournalSlotCheckRead s = _
  rw [execJournalSlotCheckRead, hphase, engineRead_of_inFlight hread]
  rfl

theorem slotGood_iff (ws : List Word) (i : Nat) : s.slotGood ws i = true ↔
    (wordAt ws (3 * i)).extractLsb' 4 12 = 0xE00#12 ∧
    s.inJournal (addrOfWords (wordAt ws (3 * i)) (wordAt ws (3 * i + 1))) = false ∧
    ∀ k < i, addrOfWords (wordAt ws (3 * k)) (wordAt ws (3 * k + 1)) ≠
      addrOfWords (wordAt ws (3 * i)) (wordAt ws (3 * i + 1)) := by
  simp only [State.slotGood, Bool.and_eq_true, decide_eq_true_eq, Bool.not_eq_true', List.all_eq_true, List.mem_range,
    and_assoc]
  rfl

theorem entriesGood_iff (ws : List Word) : s.entriesGood ws = true ↔
    crc16 ws = s.headerRead 3 ∧ ∀ i < s.loggedCount, s.slotGood ws i = true := by
  simp [State.entriesGood]

end Check

/-- Settles O22: the last slot word has the whole log judged, by its CRC and slot by slot. -/
theorem checkingPassJudgesTheSlots : Obligations.CheckingPassJudgesTheSlots := by
  intro s x hphase hread slots read n good
  have hexec := exec_journalSlotCheckRead_of_check hphase hread
  have hgood : read.entriesGood slots = true ↔ good := by
    rw [entriesGood_iff]
    exact and_congr_right fun _ => forall₂_congr fun i _ => slotGood_iff slots i
  refine ⟨fun hmore => hexec.trans (congrArg _ (if_pos hmore)), fun hlast hpass => ?_, fun hlast hfail => ?_⟩
  · exact hexec.trans (congrArg _ ((if_neg (Nat.not_lt.mpr hlast)).trans (if_pos (hgood.mpr hpass))))
  · obtain ⟨hhand, hstate, hnone, hraised, hframe⟩ := findDamaged_spec 2#16 read
    refine ⟨_, hexec.trans (congrArg _ ((if_neg (Nat.not_lt.mpr hlast)).trans (if_neg (mt hgood.mp hfail)))), hhand,
      hstate, hnone, hraised.trans ?_, hframe⟩
    rw [raise_told, raise_told]
    rfl

/-! ### The loading pass (07 R150) -/

section Load

variable {s : State}

theorem exec_replayLoadRead_of_load {x : Addr} (hphase : s.recovery.phase = .load)
    (hread : s.inFlight = some { holder := .engine, kind := .read, addr := x }) :
    exec .replayLoadRead s = .next (takeLoadWord (memRead s.memory x.toNat) s) := by
  change execReplayLoadRead s = _
  rw [execReplayLoadRead, hphase, engineRead_of_inFlight hread]
  rfl

theorem joinLoaded_eq (s : State) : joinLoaded s = { s with
    sb := if s.recovery.loaded.length % 3 = 0 then
      s.sb ++ [slotEntry s.recovery.loaded (s.recovery.loaded.length / 3 - 1)] else s.sb } := by
  unfold joinLoaded
  dsimp only
  split <;> rfl

end Load

/-- Settles O23: each word read joins the loading pass, and each third an entry; after the last the replay begins. -/
theorem loadingPassJoinsRecoveryEntries : Obligations.LoadingPassJoinsRecoveryEntries := by
  intro s x hphase hread loaded i entry read
  have hexec := exec_replayLoadRead_of_load hphase hread
  have hjoined : joinLoaded { s with recovery := { s.recovery with loaded := loaded }, inFlight := none } = read :=
    joinLoaded_eq _
  have htake : takeLoadWord (memRead s.memory x.toNat) s =
      if loaded.length < 3 * read.loggedCount then requestEngineRead (read.journalAddr (8 + loaded.length)) read
      else beginReplay read :=
    congrArg (fun t : State => if t.recovery.loaded.length < 3 * t.loggedCount
      then requestEngineRead (t.journalAddr (8 + t.recovery.loaded.length)) t else beginReplay t) hjoined
  refine ⟨fun hmore => hexec.trans (congrArg _ (htake.trans (if_pos hmore))), fun hlast => ⟨beginReplay read, ?_⟩⟩
  exact ⟨hexec.trans (congrArg _ (htake.trans (if_neg (Nat.not_lt.mpr hlast)))), rfl, rfl, ⟨rfl, rfl⟩, rfl⟩

end Sys2Proof.Machine

/-! SUPPORT. The memory port's rotation (chapter 10) and the journal engine (chapter 6): its grant, the take, the words
of its course, the completions of its accesses and the stop. -/

namespace Sys2Proof.Machine

/-! ### The grant (10 R187) -/

section Grant

variable {s : State}

theorem findSome?_of_three {α β : Type} (f : α → Option β) (x y z : α) :
    [x, y, z].findSome? f = (f x).or ((f y).or (f z)) := by
  cases hx : f x <;> cases hy : f y <;> cases hz : f z <;> simp [List.findSome?, hx, hy, hz]

theorem exec_memoryPortGrant_of_busy {y : Access} (h : s.inFlight = some y) : exec .memoryPortGrant s = .next s := by
  change execMemoryPortGrant s = _
  rw [execMemoryPortGrant, h]

theorem exec_memoryPortGrant_of_idle (h : s.nextGrant = none) : exec .memoryPortGrant s = .next s := by
  change execMemoryPortGrant s = _
  rw [execMemoryPortGrant, h]
  cases s.inFlight <;> rfl

theorem exec_memoryPortGrant_of_next {r : Requester} {q : Request} (hfree : s.inFlight = none)
    (hnext : s.nextGrant = some (r, q)) : exec .memoryPortGrant s = .next (useGrant r q (grantTo r s)) := by
  change execMemoryPortGrant s = _
  rw [execMemoryPortGrant, hfree, hnext]

theorem grantedWord_eq (kind : AccessKind) (w : WordInHand) :
    grantedWord kind w = { w with granted := if kind = .read then w.granted else true } := by
  cases kind <;> rfl

end Grant

/-- Settles O24: the rotation is a search of three requesters, and the engine's grant begins its access. -/
theorem engineIsGrantedInRotation : Obligations.EngineIsGrantedInRotation := by
  refine ⟨fun s => ⟨fun h => ?_, fun h => ?_, fun h => ?_, fun y => exec_memoryPortGrant_of_busy,
    exec_memoryPortGrant_of_idle⟩, fun s q hfree hnext => ?_⟩
  · rw [State.nextGrant, h]
    exact findSome?_of_three ..
  · rw [State.nextGrant, h]
    exact findSome?_of_three ..
  · rw [State.nextGrant, h]
    exact findSome?_of_three ..
  · rw [exec_memoryPortGrant_of_next hfree hnext, ← funext (grantedWord_eq q.kind)]
    rfl

/-! ### The take (06 R117) -/

section Take

variable {s : State} {p : Port}

/-- The state of a take before its first word is placed in hand. -/
def takenState (p : Port) (rest : List Port) (s : State) : State :=
  ({ s with commitQueue := rest }.setTxn p (takenTxn s.engine.nextNumber (s.txns.get p))).setEngine
    (takenEngine p s.engine)

theorem engineTake_of_idle {rest : List Port} (hidle : s.engine.state = .idle) (hqueue : s.commitQueue = p :: rest) :
    engineTake s = placeWord (.slot 0 0) (takenState p rest s) := by
  rw [engineTake, hidle, hqueue]
  rfl

theorem exec_engineTake (h : s.stage = .operating) : exec .engineTake s = .next (engineTake s) :=
  congrArg Host.Outcome.next (if_pos (by simp [State.ready, h]))

end Take

/-- The words of a slot are those of its entry (11 R194). -/
theorem roleValue_slot_of_entry {s : State} {i : Nat} {e : Entry} (h : s.engineEntry i = some e) (j : Nat) :
    s.roleValue (.slot i j) = wordAt (slotWords e) j := by
  rw [State.roleValue, h]
  rfl

/-- Settles O28: the take sets the transaction and the engine, and the word in hand is word 0 of the entry at
position 0. -/
theorem engineTakesTheHead : Obligations.EngineTakesTheHead := by
  intro s p rest e hstage hidle hqueue hentry
  refine ⟨_, (exec_engineTake hstage).trans (congrArg _ (engineTake_of_idle hidle hqueue)), rfl, rfl, rfl, rfl, rfl,
    rfl,
    rfl, rfl, ?_, rfl⟩
  have hfirst : (takenState p rest s).engineEntry 0 = some e := hentry
  have hword : (takenState p rest s).roleValue (.slot 0 0) = 0xE000#16 ||| addrHigh e.addr :=
    roleValue_slot_of_entry hfirst 0
  rw [← hword]
  exact placeWord_hasInHand ..

/-! ### The words of a commit (06 Table 6-3, R121) -/

/-- Settles O29: the place of each role is its definition, and its value that of the entry or of the header. -/
theorem journalWordsCarryTheTransaction : Obligations.JournalWordsCarryTheTransaction := by
  intro s p number hcurrent hnumber base entries n crc
  have hentry (i : Nat) : s.engineEntry i = s.entryAt (.port p) i := by rw [State.engineEntry, hcurrent]; rfl
  have hvalue (h : Nat) : s.roleValue (.header h) =
      wordAt [0#16, number, n, crc, crc16 [0xA55A#16, number, n, crc]] h := by
    have hnum : s.engineNumber = number := by
      rw [State.engineNumber, hcurrent]
      exact congrArg (·.getD 0#16) hnumber
    have hcount : s.engineCount = s.entryCount (.port p) := by rw [State.engineCount, hcurrent]; rfl
    have hentries : s.engineEntries = s.entriesOf (.port p) := by rw [State.engineEntries, hcurrent]
    rw [State.roleValue, State.headerValue, hnum, hcount, hentries]
    rfl
  have hwords (v w x y z : Word) : wordAt [v, w, x, y, z] 1 = w ∧ wordAt [v, w, x, y, z] 2 = x ∧
      wordAt [v, w, x, y, z] 3 = y ∧ wordAt [v, w, x, y, z] 4 = z := ⟨rfl, rfl, rfl, rfl⟩
  obtain ⟨h1, h2, h3, h4⟩ := hwords 0#16 number n crc (crc16 [0xA55A#16, number, n, crc])
  refine ⟨fun i j => rfl, fun i e he => ?_, fun h => rfl, (hvalue 1).trans h1, (hvalue 2).trans h2, (hvalue 3).trans h3,
    (hvalue 4).trans h4, rfl, rfl, rfl, rfl⟩
  have hslot := roleValue_slot_of_entry ((hentry i).trans he)
  refine ⟨hslot 0, hslot 1, hslot 2, ?_, ?_⟩
  · rw [State.roleAddr, hentry, he]
    rfl
  · rw [State.roleValue, hentry, he]
    rfl

/-! ### Completions (06 R114) -/

section Completions

variable {s : State}

theorem stopping_iff : s.stopping = true ↔ s.stopWaits := by
  simp [State.stopping, State.stopWaits, Option.isSome_iff_ne_none, and_assoc]

theorem advanceNumber_eq (w : WordInHand) (s : State) : advanceNumber w s = { s with
    engine := { s.engine with
      nextNumber := if w.role = .header 1 ∧ w.attempt = 1 then s.engineNumber + 1#16 else s.engine.nextNumber } } := by
  unfold advanceNumber
  split <;> rfl

theorem exec_engineWriteComplete {w : WordInHand} (h : s.engineWriting w) (answer : MemoryAnswer) :
    exec (.engineWriteComplete answer) s =
      .next (afterWrite w (advanceNumber w ((s.writeWord w.addr (wordLeft answer w.value)).setInFlight none))) := by
  change execEngineWriteComplete answer s = _
  rw [execEngineWriteComplete, engineWrite_eq_some.mpr h]

theorem exec_engineReadBackComplete {w : WordInHand} (h : s.engineVerifying w) (answer : MemoryAnswer) :
    exec (.engineReadBackComplete answer) s =
      .next (afterReadBack w (wordReturned answer s.memory w.addr) (s.setInFlight none)) := by
  change execEngineReadBackComplete answer s = _
  rw [execEngineReadBackComplete, engineReadBack_eq_some.mpr h]

theorem wordLeft_eq (answer : MemoryAnswer) (d : Word) : wordLeft answer d =
    match answer with
    | .sound => d
    | .faulty v => v := by
  cases answer <;> rfl

end Completions

/-- Settles O30: the word is left in memory and the number advances before the engine stops, verifies or goes on. -/
theorem engineWriteCompletes : Obligations.EngineWriteCompletes := by
  intro answer s w hwriting word number written
  have hexec : exec (.engineWriteComplete answer) s = .next (afterWrite w written) := by
    refine (exec_engineWriteComplete hwriting answer).trans (congrArg (fun t => Host.Outcome.next (afterWrite w t)) ?_)
    rw [advanceNumber_eq, wordLeft_eq]
    rfl
  have hstopping : written.stopping = true ↔ s.stopWaits := stopping_iff
  refine ⟨fun hgoes hverify => hexec.trans (congrArg _ ?_), fun hgoes hverify => hexec.trans (congrArg _ ?_),
    fun p first hwaits hcurrent hstop => hexec.trans (congrArg _ ?_)⟩
  · exact (if_neg (mt hstopping.mp hgoes)).trans (if_pos hverify)
  · exact (if_neg (mt hstopping.mp hgoes)).trans (if_neg fun h => Bool.false_ne_true (hverify.symm.trans h))
  · exact (if_pos (hstopping.mpr hwaits)).trans (settleStop_stoppedWith p w first written hwriting.2 hcurrent hstop)

/-- Settles O31: a stop that waits is settled first; then the word read and the attempt decide. -/
theorem readBackDecidesTheAttempt : Obligations.ReadBackDecidesTheAttempt := by
  intro answer s w hverifying word read becomes
  have hexec : exec (.engineReadBackComplete answer) s = .next (afterReadBack w word read) := by
    refine (exec_engineReadBackComplete hverifying answer).trans
      (congrArg (fun v => Host.Outcome.next (afterReadBack w v read)) ?_)
    exact wordReturned_eq ..
  have hstopping : read.stopping = true ↔ s.stopWaits := stopping_iff
  refine ⟨fun hgoes => ?_, fun p first hwaits hcurrent hstop => hexec.trans (congrArg _ ?_)⟩
  · have hcompared : afterReadBack w word read = if word = w.value then wordDone w.role read
        else if w.attempt < 3 then retryWord w read else wordFailed w.role w.addr read :=
      if_neg (mt hstopping.mp hgoes)
    refine ⟨fun hsame => hexec.trans (congrArg _ (hcompared.trans (if_pos hsame))),
      fun hdiffers hagain => hexec.trans (congrArg _ (hcompared.trans ((if_neg hdiffers).trans (if_pos hagain)))),
      fun hdiffers hthird => hexec.trans (congrArg _ (hcompared.trans ((if_neg hdiffers).trans (if_neg ?_))))⟩
    exact Nat.not_lt.mpr hthird
  · exact (if_pos (hstopping.mpr hwaits)).trans (settleStop_stoppedWith p w first read hverifying.2 hcurrent hstop)

/-! ### The order of the words (06 R118 to R121) -/

section Order

variable {s : State}

theorem engineCount_of_current {o : Owner} (h : s.engine.current = some o) : s.engineCount = s.entryCount o := by
  rw [State.engineCount, h]
  rfl

theorem commitPoint_of_port {p : Port} (h : s.engine.current = some (.port p)) :
    commitPoint s = placeWord (.home 0) (setTxnState p .applying (setEngineState .applying s)) := by
  rw [commitPoint, h]

theorem beginClearing_of_port {p : Port} (h : s.engine.current = some (.port p)) :
    beginClearing s = placeWord .clear (setTxnState p .clearing (setEngineState .clearing s)) := by
  rw [beginClearing, h]

theorem beginClearing_of_recovery (h : s.engine.current = some .recovery) :
    beginClearing s = placeWord .clear (setEngineState .clearing s) := by
  rw [beginClearing, h]

theorem wordDone_slot_last (i : Nat) (s : State) : wordDone (.slot i 2) s =
    if i + 1 < s.engineCount then placeWord (.slot (i + 1) 0) s else placeWord (.header 1) s := rfl

theorem wordDone_home (k : Nat) (s : State) : wordDone (.home k) s =
    if k + 1 < s.engineCount then placeWord (.home (k + 1)) s else beginClearing s := rfl

theorem home_of_entry {k : Nat} {e : Entry} (h : s.engineEntry k = some e) :
    s.roleAddr (.home k) = e.addr ∧ s.roleValue (.home k) = e.data := by
  rw [State.roleAddr, State.roleValue, h]
  exact ⟨rfl, rfl⟩

end Order

/-- Settles O32: each completed word is followed by the next of its run, and the last of a run by the first of the
next. -/
theorem engineWordsGoInOrder : Obligations.EngineWordsGoInOrder := by
  refine ⟨fun s p hcurrent => ?logging, fun s p hcurrent => ?applying, fun s hcurrent => ?replay, fun s => ?format⟩
  case logging =>
    have hcount := engineCount_of_current hcurrent
    refine ⟨fun i j hj => if_pos hj, fun i hi => ?_, fun i hi => ?_, fun h hh => if_pos hh, rfl,
      fun role => ⟨placeWord_hasInHand role s, rfl⟩⟩
    · rw [wordDone_slot_last, hcount, if_pos hi]
    · rw [wordDone_slot_last, hcount, if_neg (Nat.not_lt.mpr hi)]
  case applying =>
    have hcount := engineCount_of_current hcurrent
    refine ⟨commitPoint_of_port hcurrent, fun k hk => ?_, fun k hk => ?_⟩
    · rw [wordDone_home, hcount, if_pos hk]
    · rw [wordDone_home, hcount, if_neg (Nat.not_lt.mpr hk), beginClearing_of_port hcurrent]
      rfl
  case replay =>
    have hcount := engineCount_of_current hcurrent
    refine ⟨fun k hk => ?_, fun k hk => ?_, fun k e he => home_of_entry ?_⟩
    · rw [wordDone_home, hcount, if_pos hk]
    · rw [wordDone_home, hcount, if_neg (Nat.not_lt.mpr hk), beginClearing_of_recovery hcurrent]
      rfl
    · rw [State.engineEntry, hcurrent]
      exact he
  case format =>
    refine ⟨fun h hh => if_pos hh, rfl, fun h => ⟨rfl, rfl⟩, fun role hrole => ?_⟩
    simp only [List.mem_cons, List.not_mem_nil, or_false] at hrole
    rcases hrole with rfl | rfl | rfl | rfl <;> exact ⟨rfl, rfl⟩

/-! ### Ends, faults and stops (06 R123 to R130) -/

theorem endTxn_engine (p : Port) (o : TxnOutcome) (s : State) : (endTxn p o s).engine = s.engine := by
  rw [endTxn_frame]

theorem endTxn_waiting (p : Port) (o : TxnOutcome) (s : State) : (endTxn p o s).waiting = s.waiting := by
  rw [endTxn_frame]

/-- The engine at rest after the end of its transaction. -/
theorem endEngine_endTxn (e : EngineState) (p : Port) (o : TxnOutcome) (s : State) :
    endEngine e (endTxn p o s) = { endTxn p o s with
      engine := s.engine.atRest e, waiting := { s.waiting with engine := none } } := by
  rw [endEngine, State.setEngineRequest, State.setEngine, endTxn_engine, endTxn_waiting]
  rfl

section Ends

variable {s : State} {p : Port}

theorem wordDone_clear_of_port (h : s.engine.current = some (.port p)) : wordDone .clear s = commitDone p s := by
  rw [wordDone, h]

theorem commitDone_eq {number : Word} (h : (s.txns.get p).number = some number) : commitDone p s =
    { endTxn p .committed s with
      engine := { s.engine.atRest .idle with lastCleared := number },
      waiting := { s.waiting with engine := none } } := by
  rw [commitDone, h, endTxn_engine, endEngine, State.setEngineRequest, setEngine_waiting, setEngine_waiting,
    endTxn_waiting]
  rfl

theorem endCurrent_of_port (h : s.engine.current = some (.port p)) (o : TxnOutcome) :
    endCurrent o s = endTxn p o s := by
  rw [endCurrent, h]

theorem wordDone_restore_of_port (h : s.engine.current = some (.port p)) : wordDone .restore s =
    { endTxn p (loggingOutcome s.engine.stop) s with
      engine := s.engine.atRest .idle, waiting := { s.waiting with engine := none } } := by
  rw [wordDone, endLogging, endCurrent_of_port h, endEngine_endTxn]

/-- A four-bit phase stands above the address bits of a detail high word (11 Table 11-7). -/
theorem phaseAndHigh_eq (phase : BitVec 4) (x : Addr) : phaseAndHigh phase x = (phase ++ 0#12) ||| addrHigh x := by
  rw [phaseAndHigh, addrHigh]
  generalize x.extractLsb' 16 4 = y
  revert phase y
  decide

/-- What entering FAULTED comes to for at most one QUEUED transaction, the other port's (06 R130). -/
theorem enterFaulted_endTxn {q : Port} (hq : q = otherPort p) (hqueue : s.commitQueue = [] ∨ s.commitQueue = [q])
    (o : TxnOutcome) (phase : BitVec 4) (x : Addr) :
    enterFaulted phase x (endTxn p o s) =
      if s.commitQueue = [] then
        raise .engineFault .part none (phaseAndHigh phase x) (addrLow x) (endEngine .faulted (endTxn p o s))
      else endTxn q .engineFault
        (raise .engineFault .part none (phaseAndHigh phase x) (addrLow x) (endEngine .faulted (endTxn p o s))) := by
  have hleft : (raise .engineFault .part none (phaseAndHigh phase x) (addrLow x)
      (endEngine .faulted (endTxn p o s))).commitQueue = s.commitQueue.filter (fun r => decide (r ≠ p)) := by
    rw [raise_frame]
    exact endTxn_commitQueue p o s
  rw [enterFaulted, endQueued, hleft]
  obtain hempty | hone := hqueue
  · rw [hempty]
    rfl
  · have hne : q ≠ p := hq ▸ otherPort_ne p
    rw [hone, if_neg (List.cons_ne_nil _ _), List.filter_cons, if_pos (by simpa using hne)]
    rfl

end Ends

/-- Settles O33: each end is the end of the transaction with the engine at rest; a fault adds ENGINE_FAULT and the end
of the one transaction that may be QUEUED, the other port's; in recovery READY rises after the end of recovery. -/
theorem engineEndsOrFaults : Obligations.EngineEndsOrFaults := by
  refine ⟨fun s p number hcurrent hnumber => ?ends, fun s p q x hcurrent hq hqueue => ?faults, fun s x => ?recovery⟩
  case ends =>
    have hrestored := wordDone_restore_of_port hcurrent
    refine ⟨(wordDone_clear_of_port hcurrent).trans (commitDone_eq hnumber), fun hstop => ?_, fun hstop => ?_,
      fun hstop => ?_, fun role x hrole => ⟨beginRestoring s, ?_, ⟨rfl, rfl⟩, rfl, rfl, rfl⟩⟩
    · rw [hrestored, hstop]
      rfl
    · rw [hrestored, hstop]
      rfl
    · rw [hrestored, hstop]
      rfl
    · obtain ⟨i, j, rfl⟩ | ⟨h, rfl⟩ | rfl := hrole <;> rfl
  case faults =>
    intro faulted
    have hfaulted (o : TxnOutcome) (phase : BitVec 4) :
        enterFaulted phase x (endTxn p o s) = faulted (endTxn p o s) (phase ++ 0#12) := by
      rw [enterFaulted_endTxn hq hqueue, phaseAndHigh_eq]
      rfl
    have hrestore : wordFailed .restore x s = enterFaulted 0#4 x (endTxn p (loggingOutcome s.engine.stop) s) := by
      rw [wordFailed, endCurrent_of_port hcurrent]
    refine ⟨fun k => ?_, ?_, fun hstop => ?_, fun hstop => ?_, fun hstop => ?_⟩
    · rw [wordFailed, hcurrent]
      exact hfaulted _ _
    · rw [wordFailed, hcurrent]
      exact hfaulted _ _
    · rw [hrestore, hstop]
      exact hfaulted _ _
    · rw [hrestore, hstop]
      exact hfaulted _ _
    · rw [hrestore, hstop]
      exact hfaulted _ _
  case recovery =>
    intro failed
    have hfailed (phase : BitVec 4) : replayFault phase x s = failed (phase ++ 0#12) := by
      rw [replayFault, endRecovery_recovered, phaseAndHigh_eq]
    refine ⟨?_, ?_, fun h => hfailed _, hfailed _, hfailed _, fun hcurrent => ⟨?_, fun k => ?_, ?_⟩⟩
    · rw [wordDone, formatDone, endRecovery_recovered]
    · rw [wordDone, damagedDone, endRecovery_recovered]
    · rw [wordDone, hcurrent]
      change replayDone s = _
      rw [replayDone, endRecovery_recovered]
      rfl
    · rw [wordFailed, hcurrent]
      exact hfailed _
    · rw [wordFailed, hcurrent]
      exact hfailed _

/-- Settles O34: the first cause is recorded; a restoring write and an access in flight go on, and otherwise the stop
settles at once. -/
theorem stopEndsLogging : Obligations.StopEndsLogging := by
  intro cause s p w hlogging hcurrent hword first recorded withdrawn
  refine ⟨fun hrestoring => if_pos hrestoring, fun hrestoring hflight => ?_, fun hrestoring hflight => ?_⟩
  · exact (if_neg fun h => Bool.false_ne_true (hrestoring.symm.trans h)).trans (if_pos hflight)
  · refine (if_neg fun h => Bool.false_ne_true (hrestoring.symm.trans h)).trans
      ((if_neg fun h => Bool.false_ne_true (hflight.symm.trans h)).trans ?_)
    exact settleStop_stoppedWith p w first withdrawn hword hcurrent rfl

end Sys2Proof.Machine

/-! SUPPORT. Operations that neither read nor touch the client ports, so that a cycle may end before them or after
them. -/

namespace Sys2Proof.Machine

/-- An operation that neither reads nor touches the client ports. -/
structure Portless (f : State → State) : Prop where
  setPort : ∀ (s : State) (p : Port) (c : ClientPort), f (s.setPort p c) = (f s).setPort p c

namespace Portless

variable {f g : State → State}

theorem comp (hg : Portless g) (hf : Portless f) : Portless (fun s => g (f s)) :=
  ⟨fun s p c => (congrArg g (hf.setPort s p c)).trans (hg.setPort (f s) p c)⟩

theorem id : Portless (fun s => s) := ⟨fun _ _ _ => rfl⟩

/-- One of two operations, by a condition that does not bear on the ports. -/
theorem ite {P : State → Prop} [∀ s, Decidable (P s)] (hP : ∀ s p c, P (s.setPort p c) ↔ P s) (hf : Portless f)
    (hg : Portless g) : Portless (fun s => if P s then f s else g s) := by
  refine ⟨fun s p c => ?_⟩
  by_cases h : P s
  · rw [if_pos h, if_pos ((hP s p c).mpr h), hf.setPort]
  · rw [if_neg h, if_neg (mt (hP s p c).mp h), hg.setPort]

theorem ports (h : Portless f) (s : State) (p : Port) : (f s).ports.get p = s.ports.get p := by
  have hsame : s.setPort p (s.ports.get p) = s := by
    rw [State.setPort, PerPort_set_get]
  have hkept := h.setPort s p (s.ports.get p)
  rw [hsame] at hkept
  rw [hkept, setPort_ports, PerPort_get_set_same]

/-- The end of a cycle may come first. -/
theorem completeCycle (h : Portless f) (p : Port) (a : Option Word) (s : State) :
    completeCycle p a (f s) = f (completeCycle p a s) := by
  rw [Machine.completeCycle, Machine.completeCycle, h.setPort, h.ports]

end Portless

/-! ### Events, sessions and leases -/

theorem raise_portless (n : EventName) (who : Concerned) (w : Option (Fin 16)) (hi lo : Word) :
    Portless (raise n who w hi lo) := by
  refine ⟨fun s p c => ?_⟩
  rw [raise_told, raise_told]
  rfl

theorem endLease_portless (w : Fin 16) (cause : LeaseCause) : Portless (endLease w cause) := by
  refine ⟨fun s p c => ?_⟩
  have hsame : (s.setPort p c).lease w = s.lease w := rfl
  unfold endLease
  rw [hsame]
  cases s.lease w with
  | leased r => exact (raise_portless ..).setPort (s.setLease w (afterLease (s.window w))) p c
  | closed => rfl
  | holdoff ms => rfl

theorem spendUnit_portless (q : Port) (w : Fin 16) : Portless (spendUnit q w) := by
  refine ⟨fun s p c => ?_⟩
  have hsame : (s.setPort p c).lease w = s.lease w := rfl
  unfold spendUnit
  rw [hsame]
  cases s.lease w with
  | leased r =>
    dsimp only
    split
    · split
      · exact (endLease_portless w .budget).setPort (s.setLease w (.leased (spentLease r))) p c
      · rfl
    · rfl
  | closed => rfl
  | holdoff ms => rfl

/-! ### Recognizers -/

/-- A break counted with a recognizer that the state gives, its ports apart. -/
theorem countBreak_portless {q : Port} {cause : Word} {r : State → Sqr} (hr : ∀ s p c, r (s.setPort p c) = r s) :
    Portless (fun s => countBreak q cause (r s) s) := by
  refine ⟨fun s p c => ?_⟩
  have hlimit : (s.setPort p c).breakLimit = s.breakLimit := rfl
  rw [hr]
  by_cases h : (r s).breaks + 1 = s.breakLimit
  · rw [countBreak_of_eq_limit h, countBreak_of_eq_limit (hlimit ▸ h)]
    exact (raise_portless ..).setPort (s.setSqr q (lockedSqr s { r s with breaks := (r s).breaks + 1 })) p c
  · rw [countBreak_of_ne_limit h, countBreak_of_ne_limit (hlimit ▸ h)]
    rfl

theorem takeWrite_portless (q : Port) (x : Addr) (d : Word) : Portless (takeWrite q x d) := by
  refine ⟨fun s p c => ?_⟩
  have hcompleting : (s.setPort p c).completing (s.sqr.get q) x d = s.completing (s.sqr.get q) x d := rfl
  cases hk : s.completing (s.sqr.get q) x d with
  | some k =>
    rw [takeWrite_of_completing hk, takeWrite_of_completing (hcompleting.trans hk)]
    exact (raise_portless ..).setPort
      ((s.setSqr q sessionSqr).setSession q (some (newSession (s.setSqr q sessionSqr) k))) p c
  | none =>
    by_cases hbreak : breaksSome s (s.sqr.get q) x d = true
    · rw [takeWrite_of_break hk hbreak, takeWrite_of_break (hcompleting.trans hk) hbreak]
      exact (countBreak_portless (r := fun s => movedSqr s (s.sqr.get q) x d) fun _ _ _ => rfl).setPort s p c
    · rw [takeWrite_of_no_break hk hbreak, takeWrite_of_no_break (hcompleting.trans hk) hbreak]
      rfl

theorem observe_portless (q : Port) (x : Addr) (d : Word) : Portless (observe q x d) :=
  .ite (P := fun s => s.observes q = true) (fun _ _ _ => Iff.rfl) (takeWrite_portless q x d) .id

/-! ### Staging -/

theorem raiseAccess_portless (n : EventName) (q : Port) (w : Option (Fin 16)) (x : Addr) :
    Portless (raiseAccess n q w x) := raise_portless ..

theorem overflowTxn_portless (q : Port) (w : Fin 16) (cause : Word) : Portless (overflowTxn q w cause) :=
  ⟨fun s p c => (raise_portless ..).setPort (setTxnState q .overflowed s) p c⟩

theorem stageWrite_portless (q : Port) (w : Fin 16) (x : Addr) (d : Word) : Portless (stageWrite q w x d) :=
  .ite (fun _ _ _ => Iff.rfl) .id <| .ite (fun _ _ _ => Iff.rfl) (raiseAccess_portless ..) <|
    .ite (fun _ _ _ => Iff.rfl) ((spendUnit_portless q w).comp ⟨fun _ _ _ => rfl⟩) <|
      .ite (fun _ _ _ => Iff.rfl) (overflowTxn_portless ..) <|
        .ite (fun _ _ _ => Iff.rfl) (overflowTxn_portless ..) ((spendUnit_portless q w).comp ⟨fun _ _ _ => rfl⟩)

/-! ### Transactions and the engine -/

theorem offerOutcome_portless (q : Port) (linked : Bool) (o : TxnOutcome) : Portless (offerOutcome q linked o) := by
  refine ⟨fun s p c => ?_⟩
  unfold offerOutcome
  rw [setPort_sessions]
  cases s.sessions.get q with
  | none => rfl
  | some y =>
    dsimp only
    split <;> rfl

theorem endTxn_portless (q : Port) (o : TxnOutcome) : Portless (endTxn q o) := by
  have hended (number : Option Word) (count : Nat) :
      Portless (fun s => raiseOutcome q o number count (clearTxn q o s)) :=
    (raise_portless ..).comp ⟨fun _ _ _ => rfl⟩
  refine ⟨fun s p c => ?_⟩
  by_cases h : acceptedState (s.txns.get q).state = true
  · rw [endTxn_of_accepted q o s h, endTxn_of_accepted q o (s.setPort p c) h]
    exact ((offerOutcome_portless q _ o).comp (hended _ _)).setPort s p c
  · rw [endTxn_of_not_accepted q o s h, endTxn_of_not_accepted q o (s.setPort p c) h]
    exact (hended _ _).setPort s p c

theorem engineTake_portless : Portless engineTake := by
  refine ⟨fun s p c => ?_⟩
  unfold engineTake
  rw [setPort_engine, setPort_commitQueue]
  split <;> rfl

theorem endCurrent_portless (o : TxnOutcome) : Portless (endCurrent o) := by
  refine ⟨fun s p c => ?_⟩
  unfold endCurrent
  rw [setPort_engine]
  split
  · exact (endTxn_portless _ o).setPort s p c
  · rfl
  · rfl

theorem endLogging_portless : Portless endLogging :=
  ⟨fun s p c => congrArg (endEngine .idle) ((endCurrent_portless (loggingOutcome s.engine.stop)).setPort s p c)⟩

theorem settleStop_portless : Portless settleStop := by
  refine ⟨fun s p c => ?_⟩
  unfold settleStop
  rw [setPort_engine]
  split
  · split
    · rfl
    · exact endLogging_portless.setPort s p c
  · exact endLogging_portless.setPort s p c

theorem stopEngine_portless (cause : StopCause) : Portless (stopEngine cause) :=
  .ite (fun _ _ _ => Iff.rfl) ⟨fun _ _ _ => rfl⟩ <|
    .ite (fun _ _ _ => Iff.rfl) ⟨fun _ _ _ => rfl⟩ <| settleStop_portless.comp ⟨fun _ _ _ => rfl⟩

end Sys2Proof.Machine

/-! SUPPORT. Client cycles (chapters 1 and 10): a cycle taken and settled, the courses of reads and writes, the lookup
of the stage buffer, and the grants and completions of forwarded accesses. -/

namespace Sys2Proof.Machine

/-! ### Cycles settled at once (10 R181, R182) -/

section Cycles

variable (s : State) (p : Port) (kind : AccessKind) (x : Addr) (gone : Bool)

/-- The end of a cycle just taken. -/
theorem completeCycle_taken (a : Option Word) :
    completeCycle p a (s.setPort p (heldPort kind x gone (s.ports.get p))) = s.withEnded p kind x gone a := by
  rw [completeCycle, setPort_ports, PerPort_get_set_same, completedPort_held, State.setPort, setPort_ports,
    PerPort_set_set]
  rfl

theorem countEarly_taken :
    countEarly p (s.setPort p (heldPort kind x gone (s.ports.get p))) =
      (countEarly p s).setPort p (heldPort kind x gone ((countEarly p s).ports.get p)) := by
  simp only [countEarly, State.setPort, PerPort_set_set, PerPort_get_set_same, heldPort]

theorem countEarly_eq : countEarly p s = s.setPort p { s.ports.get p with
    early := if (s.ports.get p).early = 0xFFFF#16 then 0xFFFF#16 else (s.ports.get p).early + 1#16 } := by
  rw [countEarly, satSucc]
  split
  · next h => rw [h]
  · rfl

variable {s p}

theorem settleCycle_stopped (h : s.stage = .stopped) :
    settleCycle p kind x s = completeCycle p (fixedAnswer kind Config.fillBeforeReady) s := if_pos h

theorem settleCycle_unready (hstopped : s.stage ≠ .stopped) (hready : s.stage ≠ .operating) :
    settleCycle p kind x s = completeCycle p (fixedAnswer kind Config.fillBeforeReady) (countEarly p s) :=
  (if_neg hstopped).trans (if_neg (by simp [State.ready, hready]))

theorem clientCycle_stopped (h : s.canTake p) (hstage : s.stage = .stopped) :
    clientCycle p kind x gone s = s.withEnded p kind x gone (fixedAnswer kind Config.fillBeforeReady) :=
  ((clientCycle_taken p kind x gone s h).trans (settleCycle_stopped kind x (by exact hstage))).trans
    (completeCycle_taken ..)

theorem clientCycle_unready (h : s.canTake p) (hstopped : s.stage ≠ .stopped) (hready : s.stage ≠ .operating) :
    clientCycle p kind x gone s =
      (countEarly p s).withEnded p kind x gone (fixedAnswer kind Config.fillBeforeReady) := by
  rw [clientCycle_taken p kind x gone s h, settleCycle_unready kind x (by exact hstopped) (by exact hready),
    countEarly_taken, completeCycle_taken]

end Cycles

/-- Settles O35: in reset a cycle ends with the fixed answer, before READY it is counted first, and a busy port takes
none. -/
theorem cyclesBeforeReadyAreCounted : Obligations.CyclesBeforeReadyAreCounted := by
  refine ⟨fun s p x d gone h hready hstopped => ?_, fun s p x d gone h hstopped => ?_, fun s p x d gone h => ?_⟩
  · intro counted
    have hcounted : countEarly p s = counted := countEarly_eq s p
    rw [← hcounted]
    exact ⟨congrArg _ (clientCycle_unready .read x gone h hstopped hready),
      congrArg _ (clientCycle_unready (.write d) x gone h hstopped hready)⟩
  · exact ⟨congrArg _ (clientCycle_stopped .read x gone h hstopped),
      congrArg _ (clientCycle_stopped (.write d) x gone h hstopped)⟩
  · exact ⟨congrArg _ (clientCycle_busy p .read x gone s h), congrArg _ (clientCycle_busy p (.write d) x gone s h)⟩

/-! ### Cycles judged after READY (01 section 1.3) -/

section Judged

variable (s : State) (p : Port) (kind : AccessKind) (x : Addr) (gone : Bool)

theorem restartIdle_frame : restartIdle p s = { s with sessions := (restartIdle p s).sessions } := by
  unfold restartIdle
  split <;> rfl

theorem restartIdle_portless : Portless (restartIdle p) := by
  refine ⟨fun s q c => ?_⟩
  unfold restartIdle
  rw [setPort_sessions]
  split <;> rfl

/-- The state in which a cycle just taken after READY is judged: its port HELD, the idle timer started afresh. -/
def State.judging : State := (restartIdle p s).setPort p (heldPort kind x gone (s.ports.get p))

theorem judging_frame : s.judging p kind x gone = { s with
    ports := (s.judging p kind x gone).ports, sessions := (s.judging p kind x gone).sessions } := by
  unfold State.judging
  rw [restartIdle_frame]
  rfl

theorem completeCycle_judging (a : Option Word) :
    completeCycle p a (s.judging p kind x gone) = (restartIdle p s).withEnded p kind x gone a := by
  rw [State.judging, ← (restartIdle_portless p).ports s p, completeCycle_taken]

theorem requestClient_judging :
    requestClient p kind x (s.judging p kind x gone) = (restartIdle p s).withWaiting p kind x gone := by
  rw [State.judging, ← (restartIdle_portless p).ports s p]
  rfl

variable {s p kind x gone}

/-- After READY an access that is no command access is judged by steps 3 to 6. -/
theorem clientCycle_judged (h : s.canTake p) (hready : s.stage = .operating)
    (hout : x = s.commandAddress p → s.sessions.get p = none) :
    clientCycle p kind x gone s = judgeAccess p kind x (s.judging p kind x gone) := by
  rw [clientCycle_taken p kind x gone s h, settleCycle_ready _ _ _ _ (by exact hready),
    decideAccess_memory _ _ _ _ (by exact hout), (restartIdle_portless p).setPort]
  rfl

end Judged

/-! ### Reads (01 R12 to R14) -/

section Reads

variable {s : State} {p : Port} {x : Addr}

/-- A read that is answered with the fill word, whatever memory holds. -/
def State.fills (s : State) (p : Port) (x : Addr) : Prop :=
  s.inJournal x = true ∨ ∃ w : Fin 16, s.windowOf x = some w ∧
    ((s.window w).ports.get p = false ∨ (s.window w).policy = .hidden)

theorem readCourse_of_fills (h : s.fills p x) : s.readCourse p x = .fill := by
  unfold State.readCourse
  obtain hjournal | ⟨w, hw, hclosed⟩ := h
  · exact if_pos hjournal
  · simp only [hw, State.admits, Option.any_some]
    split
    · rfl
    split
    · rfl
    next _ hadmits =>
    rw [if_pos]
    simpa using hclosed.resolve_left (by simpa using hadmits)

theorem readCourse_of_not_fills (h : ¬ s.fills p x) :
    s.readCourse p x = match s.lookup p x with
      | some v => .answered v
      | none => .forward := by
  have hjournal : ¬ s.inJournal x = true := fun hj => h (.inl hj)
  unfold State.readCourse
  dsimp only
  rw [if_neg hjournal]
  cases hw : s.windowOf x with
  | none => rfl
  | some w =>
    have hopen : ¬ ((s.window w).ports.get p = false ∨ (s.window w).policy = .hidden) := fun hc => h (.inr ⟨w, hw, hc⟩)
    obtain ⟨hport, hpolicy⟩ := not_or.mp hopen
    exact (if_neg (by simpa [State.admits] using hport)).trans (if_neg (by simpa using hpolicy))

end Reads

/-- Settles O37: the state in which the cycle is judged gives the read the course that the state before it gives. -/
theorem readsTakeTheirCourse : Obligations.ReadsTakeTheirCourse := by
  intro s p x gone h hready hout filled timed
  have hexec : exec (.clientRead ⟨p, gone⟩ x) s =
      .next (applyRead p x (s.readCourse p x) (s.judging p .read x gone)) := by
    refine congrArg Host.Outcome.next ((clientCycle_judged h hready hout).trans ?_)
    have hcourse : (s.judging p .read x gone).readCourse p x = s.readCourse p x := by
      rw [judging_frame]
      rfl
    rw [judgeAccess, hcourse]
  refine ⟨fun hfills => ?_, fun v hfills hv => ?_, fun hfills hnone => ?_, ?_⟩
  · have hfill : (s.judging p .read x gone).active.fill = s.active.fill := by
      rw [judging_frame]
      rfl
    rw [hexec, readCourse_of_fills hfills, applyRead, hfill, completeCycle_judging]
  · rw [hexec, readCourse_of_not_fills hfills, hv, applyRead, completeCycle_judging]
  · rw [hexec, readCourse_of_not_fills hfills, hnone, applyRead, requestClient_judging]
  · change restartIdle p s = _
    unfold restartIdle
    cases s.sessions.get p <;> rfl

/-! ### The lookup (05 R98) -/

section Lookup

variable (s : State) (p : Port) (o : Owner) (x : Addr)

/-- An owner holds an entry for an address. -/
def State.hasEntry : Prop := ∃ e ∈ s.sb, e.owner = o ∧ e.addr = x

variable {s p o x}

theorem staged_of_hasEntry (h : s.hasEntry o x) :
    ∃ e ∈ s.sb, e.owner = o ∧ e.addr = x ∧ s.staged o x = some e.data := by
  obtain ⟨e, he, howner, haddr⟩ := h
  obtain ⟨f, hf⟩ : ∃ f, s.sb.find? (fun e => decide (e.owner = o) && decide (e.addr = x)) = some f := by
    rw [← Option.isSome_iff_exists, List.find?_isSome]
    exact ⟨e, he, by simp [howner, haddr]⟩
  have hfits := List.find?_some hf
  simp only [Bool.and_eq_true, decide_eq_true_eq] at hfits
  exact ⟨f, List.mem_of_find?_eq_some hf, hfits.1, hfits.2, by rw [State.staged, hf]; rfl⟩

theorem staged_eq_none (h : ¬ s.hasEntry o x) : s.staged o x = none := by
  rw [State.staged, Option.map_eq_none_iff, List.find?_eq_none]
  intro e he hfits
  simp only [Bool.and_eq_true, decide_eq_true_eq] at hfits
  exact h ⟨e, he, hfits⟩

theorem stagedWhen_of {test : TxnState → Bool} (h : test (s.txns.get p).state = true) :
    s.stagedWhen test p x = s.staged (.port p) x := if_pos h

theorem stagedWhen_eq_none {test : TxnState → Bool}
    (h : test (s.txns.get p).state = true → ¬ s.hasEntry (.port p) x) : s.stagedWhen test p x = none := by
  unfold State.stagedWhen
  split
  · next ht => exact staged_eq_none (h ht)
  · rfl

theorem ownReadable_iff (t : TxnState) :
    ownReadable t = true ↔ t = .staging ∨ t = .overflowed ∨ t = .queued ∨ t = .logging := by
  cases t <;> simp [ownReadable]

theorem committedReadable_iff (t : TxnState) : committedReadable t = true ↔ t = .applying ∨ t = .clearing := by
  cases t <;> simp [committedReadable]

end Lookup

/-- Settles O38: the lookup goes down its order, and each place that holds an entry for the address answers with it. -/
theorem lookupFindsTheEntryThatMayAnswer : Obligations.LookupFindsTheEntryThatMayAnswer := by
  intro s p x has returns own committed
  have hcommitted (q : Port) : committedReadable (s.txns.get q).state = true ↔ committed q := committedReadable_iff _
  have hnone (hno : ¬ own) : s.stagedWhen ownReadable p x = none :=
    stagedWhen_eq_none fun h hhas => hno ⟨(ownReadable_iff _).mp h, hhas⟩
  have hrest (hno : ¬ own) : s.lookup p x = (s.stagedWhen committedReadable .a x).or
      ((s.stagedWhen committedReadable .b x).or (s.staged .recovery x)) := by
    rw [State.lookup, hnone hno, Option.none_or]
  have hother {q : Port} (h : committed q → ¬ has (.port q)) : s.stagedWhen committedReadable q x = none :=
    stagedWhen_eq_none fun hq => h ((hcommitted q).mp hq)
  refine ⟨fun ⟨hstate, hhas⟩ => ?_, fun hno hsome => ?_, fun hno hall => ?_⟩
  · obtain ⟨e, he, howner, haddr, hdata⟩ := staged_of_hasEntry hhas
    refine ⟨e, he, howner, haddr, ?_⟩
    rw [State.lookup, stagedWhen_of ((ownReadable_iff _).mpr hstate), hdata]
    rfl
  · by_cases ha : committed .a ∧ has (.port .a)
    · obtain ⟨e, he, howner, haddr, hdata⟩ := staged_of_hasEntry ha.2
      refine ⟨.a, ha.1, e, he, howner, haddr, ?_⟩
      rw [hrest hno, stagedWhen_of ((hcommitted .a).mpr ha.1), hdata]
      rfl
    · obtain ⟨q, hq, hhas⟩ := hsome
      obtain rfl : q = .b := by
        cases q with
        | a => exact absurd ⟨hq, hhas⟩ ha
        | b => rfl
      obtain ⟨e, he, howner, haddr, hdata⟩ := staged_of_hasEntry hhas
      refine ⟨.b, hq, e, he, howner, haddr, ?_⟩
      rw [hrest hno, hother fun h hh => ha ⟨h, hh⟩, stagedWhen_of ((hcommitted .b).mpr hq), hdata]
      rfl
  · have hlast : s.lookup p x = s.staged .recovery x := by
      rw [hrest hno, hother (hall .a), hother (hall .b), Option.none_or, Option.none_or]
    refine ⟨fun hhas => ?_, fun hhas => hlast.trans (staged_eq_none hhas)⟩
    obtain ⟨e, he, howner, haddr, hdata⟩ := staged_of_hasEntry hhas
    exact ⟨e, he, howner, haddr, hlast.trans hdata⟩

end Sys2Proof.Machine

/-! SUPPORT. Client writes (chapters 1, 5 and 10): the course of a write, the writes that are refused, forwarded and
staged, and the grants and completions of forwarded accesses. -/

namespace Sys2Proof.Machine

/-! ### The course of a write (01 R12 to R21) -/

section Courses

variable {s : State} {p : Port} {x : Addr}

theorem writeCourse_of_journal (h : s.inJournal x = true) : s.writeCourse p x = .reserved := if_pos h

theorem writeCourse_of_portDenied {w : Fin 16} (hj : s.inJournal x = false) (hw : s.windowOf x = some w)
    (hp : (s.window w).ports.get p = false) : s.writeCourse p x = .portDenied w := by
  simp [State.writeCourse, hj, hw, hp]

theorem writeCourse_of_admitted (hj : s.inJournal x = false) (hp : s.admits p (s.windowOf x) = true) :
    s.writeCourse p x = s.writeStep6 p x := by
  cases hw : s.windowOf x with
  | none => simp [State.writeCourse, hj, hw]
  | some w =>
    rw [hw] at hp
    have hport : (s.window w).ports.get p = true := hp
    simp [State.writeCourse, hj, hw, hport]

theorem writeStep6_of_fenced (h : s.fence = .fenced) : s.writeStep6 p x = .fenced := if_pos h

section Opened

variable (hopened : s.fence = .opened)

include hopened

theorem writeStep6_of_denied (h : s.permits p (s.windowOf x) = false) :
    s.writeStep6 p x = .denied (s.windowOf x) := by
  simp [State.writeStep6, hopened, h]

theorem writeStep6_of_recovery (hpermits : s.permits p (s.windowOf x) = true) (h : s.recoveryHolds x = true) :
    s.writeStep6 p x = .conflict (s.windowOf x) := by
  simp [State.writeStep6, hopened, hpermits, h]

theorem writeStep6_of_direct (hpermits : s.permits p (s.windowOf x) = true) (h : s.recoveryHolds x = false) :
    s.writeStep6 p x = s.directCourse p (s.windowOf x) := by
  simp [State.writeStep6, hopened, hpermits, h]

end Opened

theorem directCourse_of_stage {w : Fin 16} (h : s.stageBound p w = true) : s.directCourse p (some w) = .stage w :=
  if_pos h

theorem directCourse_of_claimed {w : Fin 16} (h : s.stageBound p w = false) (hclaim : s.claim w ≠ none) :
    s.directCourse p (some w) = .conflict (some w) := by
  simp [State.directCourse, h, Option.isSome_iff_ne_none, hclaim]

theorem directCourse_of_unclaimed {w : Option (Fin 16)}
    (h : ∀ i, w = some i → s.stageBound p i = false ∧ s.claim i = none) : s.directCourse p w = .forward := by
  cases w with
  | none => rfl
  | some i =>
    obtain ⟨hbound, hclaim⟩ := h i rfl
    simp [State.directCourse, hbound, hclaim]

theorem stageBound_eq_false {w : Fin 16}
    (h : (s.window w).transactional = false ∨ stages (s.txns.get p).state = false) : s.stageBound p w = false := by
  obtain h | h := h <;> simp [State.stageBound, h]

theorem permits_eq_false {w : Fin 16} (h : (s.window w).policy = .readOnly ∨ (s.window w).policy = .hidden ∨
    ((s.window w).policy = .guarded ∧ s.leasedTo w p = false)) : s.permits p (some w) = false := by
  unfold State.permits
  obtain h | h | ⟨h, hlease⟩ := h
  · simp [h]
  · simp [h]
  · simp [h, hlease]

theorem windowOf_enable {w : Fin 16} (h : s.windowOf x = some w) : (s.window w).enable = true := by
  have hcovers := List.find?_some h
  simp only [windowCovers, Bool.and_eq_true] at hcovers
  exact hcovers.1.1

theorem recoveryHolds_iff : s.recoveryHolds x = true ↔ ∃ e ∈ s.sb, e.owner = .recovery ∧ e.addr = x := by
  simp [State.recoveryHolds, State.holds]

end Courses

/-! ### Writes that end at once (01 R16 to R23) -/

section Settled

variable (p : Port) (x : Addr) (d : Word) (s : State)

/-- The cycle of a write that is absorbed with an event may end before the event. -/
theorem settleWrite_raiseAccess (n : EventName) (w : Option (Fin 16)) :
    settleWrite p x d (raiseAccess n p w x s) =
      observe p x d (raise n (.port p) w (addrHigh x) (addrLow x) (completeCycle p none s)) := by
  rw [settleWrite, (observe_portless p x d).completeCycle, raiseAccess, completeCycle_raise]

theorem countAbsorbed_portless : Portless countAbsorbed := ⟨fun _ _ _ => rfl⟩

theorem settleWrite_stageWrite (w : Fin 16) :
    settleWrite p x d (stageWrite p w x d s) = observe p x d (stageWrite p w x d (completeCycle p none s)) := by
  rw [settleWrite, (observe_portless p x d).completeCycle, (stageWrite_portless p w x d).completeCycle]

end Settled

section Written

variable {s : State} {p : Port} {x : Addr} {d : Word} {gone : Bool}

theorem writeCourse_judging : (s.judging p (.write d) x gone).writeCourse p x = s.writeCourse p x := by
  rw [judging_frame]
  rfl

theorem clientWrite_judged (h : s.canTake p) (hready : s.stage = .operating)
    (hout : x = s.commandAddress p → s.sessions.get p = none) :
    exec (.clientWrite ⟨p, gone⟩ x d) s =
      .next (applyWrite p x d (s.writeCourse p x) (s.judging p (.write d) x gone)) := by
  refine congrArg Host.Outcome.next ((clientCycle_judged h hready hout).trans ?_)
  rw [judgeAccess, writeCourse_judging]

/-- The cycle of a write just taken, ended. -/
theorem ended_frame : ∃ ports sessions, (restartIdle p s).withEnded p (.write d) x gone none =
    { s with ports := ports, sessions := sessions } := by
  rw [restartIdle_frame]
  exact ⟨_, _, rfl⟩

end Written

/-- Settles O39: each refusal is one course of the write, and the course left over is the forwarding. -/
theorem writesAreRefusedOrForwarded : Obligations.WritesAreRefusedOrForwarded := by
  refine ⟨fun s p x d gone h hready hout => ?refused, fun s p x d gone h hready hout hj hp hopened hpermits hrecovery
    hdirect => ?forwarded, fun s p operand verb gone c hc => ?words⟩
  case refused =>
    intro ended refused
    have hexec := clientWrite_judged (d := d) (gone := gone) h hready hout
    have hrefused {course : WriteCourse} {n : EventName} {w : Option (Fin 16)} (hcourse : s.writeCourse p x = course)
        (happly : ∀ u, applyWrite p x d course u = settleWrite p x d (raiseAccess n p w x u)) : refused n w := by
      refine hexec.trans (congrArg _ ?_)
      rw [hcourse, happly, settleWrite_raiseAccess, completeCycle_judging]
    refine ⟨fun hj => hrefused (writeCourse_of_journal hj) fun _ => rfl,
      fun w hj hw hp => hrefused (writeCourse_of_portDenied hj hw hp) fun _ => rfl, fun hj hp => ?_⟩
    have hstep := writeCourse_of_admitted hj hp
    refine ⟨fun hfenced => hexec.trans (congrArg _ ?_), fun hopened => ⟨⟨fun w hw hpolicy => ?_, fun hw hback => ?_⟩,
      fun hpermits => ⟨fun hheld => ?_, fun w hfree hw hbound hclaim => ?_⟩⟩⟩
    · rw [hstep, writeStep6_of_fenced hfenced, applyWrite, countAbsorbed_portless.completeCycle, completeCycle_judging]
      have habsorbed : ((restartIdle p s).withEnded p (.write d) x gone none).absorbed = s.absorbed := by
        obtain ⟨ports, sessions, hframe⟩ := ended_frame (s := s) (p := p) (x := x) (d := d) (gone := gone)
        exact (congrArg State.absorbed hframe :)
      rw [countAbsorbed, habsorbed]
    · have hdenied : s.permits p (s.windowOf x) = false := by rw [hw, permits_eq_false hpolicy]
      exact hw ▸ hrefused (hstep.trans (writeStep6_of_denied hopened hdenied)) fun _ => rfl
    · have hdenied : s.permits p (s.windowOf x) = false := by rw [hw]; simp [State.permits, hback]
      exact hw ▸ hrefused (hstep.trans (writeStep6_of_denied hopened hdenied)) fun _ => rfl
    · exact hrefused (hstep.trans (writeStep6_of_recovery hopened hpermits (recoveryHolds_iff.mpr hheld))) fun _ => rfl
    · have hcourse := hstep.trans (writeStep6_of_direct hopened hpermits hfree)
      rw [hw, directCourse_of_claimed (stageBound_eq_false hbound) hclaim] at hcourse
      exact hrefused hcourse fun _ => rfl
  case forwarded =>
    have hforward : s.writeCourse p x = .forward := by
      rw [writeCourse_of_admitted hj hp, writeStep6_of_direct hopened hpermits hrecovery]
      exact directCourse_of_unclaimed fun w hw => ⟨stageBound_eq_false (hdirect w hw).2, (hdirect w hw).1⟩
    rw [clientWrite_judged h hready hout, hforward, applyWrite, requestClient_judging]
  case words =>
    simp only [List.mem_cons, List.not_mem_nil, or_false, Prod.mk.injEq] at hc
    rcases hc with ⟨rfl, rfl⟩ | ⟨rfl, rfl⟩ | ⟨rfl, rfl⟩ | ⟨rfl, rfl⟩ | ⟨rfl, rfl⟩ | ⟨rfl, rfl⟩ | ⟨rfl, rfl⟩ |
      ⟨rfl, rfl⟩ | ⟨rfl, rfl⟩ | ⟨rfl, -⟩ <;> rfl

/-! ### Stage-bound writes (05 R90 to R93, R100, R101) -/

section Staged

variable {s : State} {p : Port} {x : Addr} {d : Word} {w : Fin 16}

theorem stageBound_iff : s.stageBound p w = true ↔
    (s.window w).enable = true ∧ (s.window w).transactional = true ∧ stages (s.txns.get p).state = true := by
  simp [State.stageBound, and_assoc]

theorem holds_iff {o : Owner} : s.holds o x = true ↔ ∃ e ∈ s.sb, e.owner = o ∧ e.addr = x := by
  simp [State.holds]

theorem stageWrite_of_overflowed (h : (s.txns.get p).state = .overflowed) : stageWrite p w x d s = s := if_pos h

section Staging

variable (hstaging : (s.txns.get p).state = .staging)

include hstaging

theorem stageWrite_of_conflict (hclaim : s.claim w = some (otherPort p)) :
    stageWrite p w x d s = raiseAccess .conflictWrite p (some w) x s := by
  simp [stageWrite, hstaging, hclaim]

section Free

variable (hclaim : s.claim w ≠ some (otherPort p))

include hclaim

theorem stageWrite_of_held (hheld : ∃ e ∈ s.sb, e.owner = .port p ∧ e.addr = x) :
    stageWrite p w x d s = spendUnit p w (overwriteStaged p x d s) := by
  simp [stageWrite, hstaging, hclaim, holds_iff.mpr hheld]

variable (hheld : ¬ ∃ e ∈ s.sb, e.owner = .port p ∧ e.addr = x)

include hheld

theorem stageWrite_of_full (hfull : Config.stageCapacity ≤ s.sb.length) :
    stageWrite p w x d s = overflowTxn p w 0#16 s := by
  simp [stageWrite, hstaging, hclaim, mt holds_iff.mp hheld, hfull]

theorem stageWrite_of_tooLarge (hroom : s.sb.length < Config.stageCapacity)
    (hlarge : s.journalEntries ≤ s.entryCount (.port p)) : stageWrite p w x d s = overflowTxn p w 1#16 s := by
  simp [stageWrite, hstaging, hclaim, mt holds_iff.mp hheld, Nat.not_le.mpr hroom, hlarge]

theorem stageWrite_of_room (hroom : s.sb.length < Config.stageCapacity)
    (hfits : s.entryCount (.port p) < s.journalEntries) :
    stageWrite p w x d s = spendUnit p w (joinStaged p w x d s) := by
  simp [stageWrite, hstaging, hclaim, mt holds_iff.mp hheld, Nat.not_le.mpr hroom, Nat.not_le.mpr hfits]

end Free

end Staging

theorem observe_of_session (h : (s.sqr.get p).state = .session) : observe p x d s = s := by
  simp [observe, State.observes, h]

end Staged

/-- Settles O40: the staging of the write is that of the state before it, with the cycle ended. -/
theorem stageBoundWritesAreStaged : Obligations.StageBoundWritesAreStaged := by
  intro s p x d w gone h hready hout hj hw hp hopened hpermits hrecovery htrans hsqr ended count held overflowed
  obtain ⟨ports, sessions, hframe⟩ := ended_frame (s := s) (p := p) (x := x) (d := d) (gone := gone)
  have hended : ended = { s with ports := ports, sessions := sessions } := hframe
  have hexec (hstages : stages (s.txns.get p).state = true) {t : State} (ht : stageWrite p w x d ended = t) :
      exec (.clientWrite ⟨p, gone⟩ x d) s = .next t := by
    have hbound : s.stageBound p w = true := stageBound_iff.mpr ⟨windowOf_enable hw, htrans, hstages⟩
    have hadmits : s.admits p (s.windowOf x) = true := by rw [hw]; exact hp
    have hcourse : s.writeCourse p x = .stage w := by
      rw [writeCourse_of_admitted hj hadmits, writeStep6_of_direct hopened (hw ▸ hpermits) hrecovery, hw,
        directCourse_of_stage hbound]
    have hsession : ((stageWrite p w x d ended).sqr.get p).state = .session := by
      rw [stageWrite_frame, hended]
      exact hsqr
    rw [clientWrite_judged h hready hout, hcourse, applyWrite, settleWrite_stageWrite, completeCycle_judging, ← ht]
    exact congrArg _ (observe_of_session hsession)
  clear_value ended
  subst hended
  refine ⟨fun hover => hexec (by rw [hover]; rfl) (stageWrite_of_overflowed hover), fun hstaging => ?_⟩
  have hstages : stages (s.txns.get p).state = true := by rw [hstaging]; rfl
  exact ⟨fun hclaim => hexec hstages (stageWrite_of_conflict hstaging hclaim), fun hclaim =>
    ⟨fun hheld => hexec hstages (stageWrite_of_held hstaging hclaim hheld),
      fun hheld hfull => hexec hstages (stageWrite_of_full hstaging hclaim hheld hfull),
      fun hheld hroom hlarge => hexec hstages (stageWrite_of_tooLarge hstaging hclaim hheld hroom hlarge),
      fun hheld hroom hfits => hexec hstages (stageWrite_of_room hstaging hclaim hheld hroom hfits)⟩⟩

end Sys2Proof.Machine

/-! SUPPORT. Grants of the memory port to client accesses and the completions of forwarded accesses (chapters 1, 4
and 10). -/

namespace Sys2Proof.Machine

/-! ### Grants (01 R15, R21; 10 R187, R188) -/

section Grants

variable {s : State} {p : Port} {x : Addr}

theorem useClientGrant_of_found {v : Word} (h : s.lookup p x = some v) :
    useClientGrant p { kind := .read, addr := x } s = completeCycle p (some v) s := by
  simp only [useClientGrant, h]

theorem useClientGrant_of_not_found (h : s.lookup p x = none) :
    useClientGrant p { kind := .read, addr := x } s = beginAccess (.client p) { kind := .read, addr := x } s := by
  simp only [useClientGrant, h]

theorem useClientGrant_of_forward {d : Word} (h : s.writeStep6 p x = .forward) :
    useClientGrant p { kind := .write d, addr := x } s =
      beginAccess (.client p) { kind := .write d, addr := x } s := by
  simp only [useClientGrant, h]

theorem useClientGrant_of_settled {d : Word} {course : WriteCourse} (h : s.writeStep6 p x = course)
    (hsettled : course ≠ .forward) :
    useClientGrant p { kind := .write d, addr := x } s = applyWrite p x d course s := by
  cases course with
  | forward => exact absurd rfl hsettled
  | reserved => simp only [useClientGrant, h]
  | portDenied w => simp only [useClientGrant, h]
  | fenced => simp only [useClientGrant, h]
  | denied w => simp only [useClientGrant, h]
  | conflict w => simp only [useClientGrant, h]
  | stage w => simp only [useClientGrant, h]

end Grants

theorem completeCycle_of_cycle {s : State} {p : Port} {c : Cycle} (a : Option Word)
    (h : (s.ports.get p).cycle = some c) : completeCycle p a s = s.setPort p (closedPort c a (s.ports.get p)) := by
  rw [completeCycle, completedPort_closed a _ c h]

/-- Settles O25: the grant repeats the lookup, and the completion answers with the word on the lines. -/
theorem forwardedReadsAreAnswered : Obligations.ForwardedReadsAreAnswered := by
  refine ⟨fun s p x c hfree hnext hcycle => ?granted, fun answer s p x c hflight hcycle => ?completed⟩
  case granted =>
    have hexec := exec_memoryPortGrant_of_next hfree hnext
    refine ⟨fun v hv => hexec.trans (congrArg _ ?_), fun hnone => hexec.trans (congrArg _ ?_)⟩
    · exact (useClientGrant_of_found (s := grantTo (.client p) s) hv).trans (completeCycle_of_cycle _ hcycle)
    · exact useClientGrant_of_not_found (s := grantTo (.client p) s) hnone
  case completed =>
    change execForwardedReadComplete answer s = _
    rw [execForwardedReadComplete, hflight]
    refine congrArg _ ((completeCycle_of_cycle (s := s.setInFlight none) _ hcycle).trans ?_)
    cases answer <;> rfl

/-- Settles O26: the state after the grant gives the write the course that the state before it gives. -/
theorem writeGrantDecidesAgain : Obligations.WriteGrantDecidesAgain := by
  intro s p x d c hfree hnext hcycle granted ended becomes refused
  have hexec : exec .memoryPortGrant s = .next (useClientGrant p { kind := .write d, addr := x } granted) :=
    exec_memoryPortGrant_of_next hfree hnext
  have hended : completeCycle p none granted = ended := completeCycle_of_cycle none hcycle
  have hsettled {course : WriteCourse} (hcourse : s.writeStep6 p x = course) (hother : course ≠ .forward) :
      becomes (applyWrite p x d course granted) :=
    hexec.trans (congrArg _ (useClientGrant_of_settled hcourse hother))
  have hrefused {course : WriteCourse} {n : EventName} {w : Option (Fin 16)} (hcourse : s.writeStep6 p x = course)
      (hother : course ≠ .forward)
      (happly : ∀ t, applyWrite p x d course t = settleWrite p x d (raiseAccess n p w x t)) : refused n w := by
    refine (hsettled hcourse hother).trans (congrArg _ ?_)
    rw [happly, settleWrite_raiseAccess, hended]
  refine ⟨fun hfenced => (hsettled (writeStep6_of_fenced hfenced) nofun).trans (congrArg _ ?_), fun hopened =>
    ⟨fun hdenied => hrefused (writeStep6_of_denied hopened hdenied) nofun fun _ => rfl, fun hpermits =>
      ⟨fun hheld => hrefused (writeStep6_of_recovery hopened hpermits hheld) nofun fun _ => rfl, fun hclear => ?_⟩⟩⟩
  · rw [applyWrite, countAbsorbed_portless.completeCycle, hended]
    rfl
  have hdirect := writeStep6_of_direct hopened hpermits hclear
  refine ⟨fun w hw => ⟨fun hbound => ?_, fun hbound hclaim => ?_⟩, fun hfree => ?_⟩
  · rw [hw, directCourse_of_stage hbound] at hdirect
    refine (hsettled hdirect nofun).trans (congrArg _ ?_)
    rw [applyWrite, settleWrite_stageWrite, hended]
  · rw [hw, directCourse_of_claimed hbound hclaim] at hdirect
    exact hrefused hdirect nofun fun _ => rfl
  · rw [directCourse_of_unclaimed hfree] at hdirect
    exact hexec.trans (congrArg _ (useClientGrant_of_forward hdirect))

/-! ### The completion of a forwarded write (01 R20, R22, R23) -/

section Spending

variable {s t : State} {p : Port} {x : Addr} {d : Word}

theorem raise_leases (n : EventName) (who : Concerned) (w : Option (Fin 16)) (hi lo : Word) (s : State) :
    (raise n who w hi lo s).leases = s.leases := by
  rw [raise_frame]

section Units

variable {w : Fin 16} {r : LeaseRecord} (hlease : s.lease w = .leased r)

theorem spendUnit_of_unleased (h : ∀ r, s.lease w ≠ .leased r) : spendUnit p w s = s := by
  unfold spendUnit
  cases hl : s.lease w with
  | leased r => exact absurd hl (h r)
  | closed => rfl
  | holdoff ms => rfl

include hlease

theorem spendUnit_of_other (h : r.holder ≠ p) : spendUnit p w s = s := by
  simp only [spendUnit, hlease, if_neg h]

theorem spendUnit_of_left (h : r.holder = p) (hleft : (spentLease r).budget ≠ some 0#16) :
    spendUnit p w s = s.setLease w (.leased (spentLease r)) := by
  simp only [spendUnit, hlease, if_pos h, if_neg hleft]

theorem spendUnit_of_spent (h : r.holder = p) (hspent : (spentLease r).budget = some 0#16) :
    spendUnit p w s = raise .leaseEnded (.port p) (some w) (leaseCauseCode .budget) (spentLease r).count
      (s.setLease w (afterLease (s.window w))) := by
  have hset : (s.setLease w (.leased (spentLease r))).lease w = .leased (spentLease r) := by
    rw [setLease_lease, if_pos rfl]
  simp only [spendUnit, hlease, if_pos h, if_pos hspent]
  rw [endLease_leased w .budget _ _ hset, show (spentLease r).holder = p from h]
  congr 1
  simp [State.setLease, State.window, State.active]

end Units

/-- The leases after a unit is spent depend on the leases and on the profile in force alone. -/
theorem spendUnit_leases_congr (w : Fin 16) (hleases : s.leases = t.leases) (hprofile : s.profile = t.profile) :
    (spendUnit p w s).leases = (spendUnit p w t).leases := by
  have hsame : s.lease w = t.lease w := congrArg (·[w]) hleases
  have hwindow : s.window w = t.window w := by rw [State.window, State.active, hprofile]; rfl
  have hset (l : Lease) : (s.setLease w l).leases = (t.setLease w l).leases := congrArg (·.set w.val l) hleases
  by_cases hleased : ∃ r, s.lease w = .leased r
  · obtain ⟨r, hr⟩ := hleased
    by_cases hholder : r.holder = p
    · by_cases hspent : (spentLease r).budget = some 0#16
      · rw [spendUnit_of_spent hr hholder hspent, spendUnit_of_spent (hsame ▸ hr) hholder hspent, raise_leases,
          raise_leases, hwindow, hset]
      · rw [spendUnit_of_left hr hholder hspent, spendUnit_of_left (hsame ▸ hr) hholder hspent, hset]
    · rw [spendUnit_of_other hr hholder, spendUnit_of_other (hsame ▸ hr) hholder, hleases]
  · have hnone := not_exists.mp hleased
    rw [spendUnit_of_unleased hnone, spendUnit_of_unleased (hsame ▸ hnone), hleases]

theorem spendAt_frame : spendAt p x s =
    { s with leases := (spendAt p x s).leases, raised := (spendAt p x s).raised } := by
  unfold spendAt
  split
  · exact spendUnit_frame ..
  · rfl

theorem spendAt_of_window {w : Fin 16} (h : s.windowOf x = some w) : spendAt p x s = spendUnit p w s := by
  simp only [spendAt, h]

theorem spendAt_of_background (h : s.windowOf x = none) : spendAt p x s = s := by
  simp only [spendAt, h]

theorem completeKey_sqr (k : Fin 4) : (completeKey p k s).sqr = s.sqr.set p sessionSqr := by
  rw [completeKey, openSession_frame]
  rfl

theorem completeKey_sessions (k : Fin 4) :
    (completeKey p k s).sessions = s.sessions.set p (some (newSession s k)) := by
  rw [completeKey, openSession, raise_frame]
  rfl

theorem countBreak_sqr (cause : Word) (q : Sqr) : (countBreak p cause q s).sqr = s.sqr.set p
    (if q.breaks + 1 = s.breakLimit then lockedSqr s { q with breaks := q.breaks + 1 }
    else { q with breaks := q.breaks + 1 }) := by
  by_cases h : q.breaks + 1 = s.breakLimit
  · rw [if_pos h, countBreak_of_eq_limit h, raise_frame]
    rfl
  · rw [if_neg h, countBreak_of_ne_limit h]
    rfl

theorem countBreak_sessions (cause : Word) (q : Sqr) : (countBreak p cause q s).sessions = s.sessions := by
  rw [countBreak_frame]

theorem takeWrite_spent {i : Option Access} {m : Memory} {l : Vector Lease 16} {r : List Notice}
    (ht : t = { s with inFlight := i, memory := m, leases := l, raised := r }) :
    (takeWrite p x d t).sqr = (takeWrite p x d s).sqr ∧
    (takeWrite p x d t).sessions = (takeWrite p x d s).sessions := by
  have hcompleting : t.completing (t.sqr.get p) x d = s.completing (s.sqr.get p) x d := by rw [ht]; rfl
  cases hk : s.completing (s.sqr.get p) x d with
  | some k =>
    rw [takeWrite_of_completing hk, takeWrite_of_completing (hcompleting.trans hk), completeKey_sqr, completeKey_sqr,
      completeKey_sessions, completeKey_sessions, ht]
    exact ⟨rfl, rfl⟩
  | none =>
    by_cases hbreak : allKeys.any (fun k => keyBroken (s.key k) (s.sqr.get p).progress[k] x d) = true
    · rw [takeWrite_of_break hk hbreak, takeWrite_of_break (hcompleting.trans hk) (ht ▸ hbreak), countBreak_sqr,
        countBreak_sqr, countBreak_sessions, countBreak_sessions, ht]
      exact ⟨rfl, rfl⟩
    · rw [takeWrite_of_no_break hk hbreak, takeWrite_of_no_break (hcompleting.trans hk) (ht ▸ hbreak), ht]
      exact ⟨rfl, rfl⟩

/-- What the recognizer does with a write depends neither on the memory and the leases nor on the events raised. -/
theorem observe_spent (ht : t = { s with
      inFlight := t.inFlight, memory := t.memory, leases := t.leases, raised := t.raised }) :
    (observe p x d t).sqr = (observe p x d s).sqr ∧ (observe p x d t).sessions = (observe p x d s).sessions := by
  obtain ⟨i, m, l, r, hlit⟩ : ∃ i m l r, t = { s with inFlight := i, memory := m, leases := l, raised := r } :=
    ⟨_, _, _, _, ht⟩
  by_cases h : s.observes p = true
  · have hobserve (u : State) (hu : u.observes p = true) : observe p x d u = takeWrite p x d u := if_pos hu
    rw [hobserve s h, hobserve t (hlit ▸ h)]
    exact takeWrite_spent hlit
  · have hignore (u : State) (hu : ¬ u.observes p = true) : observe p x d u = u := if_neg hu
    rw [hignore s h, hignore t (hlit ▸ h), hlit]
    exact ⟨rfl, rfl⟩

end Spending

/-- Settles O27: the word is written, the unit spent and the write observed, each on fields the others leave alone. -/
theorem forwardedWriteIsWritten : Obligations.ForwardedWriteIsWritten := by
  intro answer s p x d c hwf hflight hcycle
  generalize hwritten : (s.writeWord x (wordLeft answer d)).setInFlight none = u
  generalize hspent : spendAt p x u = v
  have hu : u = { s with inFlight := none, memory := memWrite s.memory x.toNat (wordLeft answer d) } := hwritten.symm
  have hv : v = { u with leases := v.leases, raised := v.raised } := hspent ▸ spendAt_frame
  have hwindow : u.windowOf x = s.windowOf x := by rw [hu]; rfl
  have hcongr (w : Fin 16) : (spendUnit p w u).leases = (spendUnit p w s).leases :=
    spendUnit_leases_congr w (by rw [hu]) (by rw [hu])
  have hsame : v = { s with
      inFlight := v.inFlight, memory := v.memory, leases := v.leases, raised := v.raised } := by
    rw [hv, hu]
  have hframe := settleWrite_frame p x d v
  have hmemory : (settleWrite p x d v).memory = memWrite s.memory x.toNat (wordLeft answer d) := by
    rw [hframe, hv, hu]
  have hleases : (settleWrite p x d v).leases = v.leases := by rw [hframe]
  refine ⟨settleWrite p x d v, ?_, fun hsound => ?_, fun a ha => ?_, fun w hw => ?_, fun hw => ?_, ?_, ?_, ?_, ?_⟩
  · change execForwardedWriteComplete answer s = _
    rw [execForwardedWriteComplete, hflight, ← hspent, ← hwritten]
  · rw [hmemory, hsound]
    exact memRead_memWrite_same _ _ _ hwf
  · rw [hmemory, memRead_memWrite_other _ _ _ _ ha]
  · rw [hleases, ← hspent, spendAt_of_window (hwindow.trans hw), hcongr]
  · rw [hleases, ← hspent, spendAt_of_background (hwindow.trans hw), hu]
  · rw [settleWrite, (observe_portless p x d).completeCycle, observe_frame, completeCycle_of_cycle (c := c)]
    · rw [hv, hu]; rfl
    · rw [hv, hu]; exact hcycle
  · refine hframe.trans ?_
    rw [hleases, hmemory, hv, hu]
  · rw [settleWrite, completeCycle_frame]
    exact (observe_spent hsame).1
  · rw [settleWrite, completeCycle_frame]
    exact (observe_spent hsame).2

end Sys2Proof.Machine

/-! SUPPORT. Commands (chapter 3): the answers of BEGIN, COMMIT, ABORT, NEXT_EVENT, ALERT_MASK and of an unknown verb,
the full queue, and the reads of the command address. -/

namespace Sys2Proof.Machine

/-! ### A command word performed (03 R48, R53) -/

section Verbs

variable (p : Port) (x : Session) (operand : Byte) (s : State)

theorem performVerb_begin : performVerb p x (commandWord 0x03#8 operand) s = scBegin p x s := by
  simp only [performVerb, verbByte_commandWord] <;> rfl

theorem performVerb_commit : performVerb p x (commandWord 0x04#8 operand) s = scCommit p x s := by
  simp only [performVerb, verbByte_commandWord] <;> rfl

theorem performVerb_abort : performVerb p x (commandWord 0x05#8 operand) s = scAbort p x s := by
  simp only [performVerb, verbByte_commandWord] <;> rfl

theorem performVerb_nextEvent : performVerb p x (commandWord 0x07#8 operand) s = scNextEvent p x s := by
  simp only [performVerb, verbByte_commandWord] <;> rfl

theorem performVerb_alertMask : performVerb p x (commandWord 0x08#8 operand) s = scAlertMask p operand s := by
  simp only [performVerb, verbByte_commandWord, operandByte_commandWord] <;> rfl

theorem performVerb_end : performVerb p x (commandWord 0x09#8 operand) s = scEnd p s := by
  simp only [performVerb, verbByte_commandWord] <;> rfl

theorem performVerb_unknown {verb : Byte} (h : knownVerb verb = false) :
    performVerb p x (commandWord verb operand) s = scBadVerb p verb s := by
  have hverb : verbByte (commandWord verb operand) = verb := verbByte_commandWord verb operand
  have hrange : verb.toNat = 0 ∨ 9 < verb.toNat := by
    simp only [knownVerb, Bool.and_eq_false_iff, decide_eq_false_iff_not] at h
    omega
  unfold performVerb
  rw [hverb]
  dsimp only
  split
  iterate 9 next hknown => omega
  rfl

end Verbs

section Performed

variable {s : State} {p : Port} {y : Session} {verb operand : Byte} {gone : Bool} {r : Result} {more : List Word}

theorem commandCycle_responds (h : s.takesVerb p y (verbNeed verb))
    (hverb : performVerb p (s.timed y) (commandWord verb operand) (s.hearing p verb operand gone y) =
      respond p verb r more (s.hearing p verb operand gone y)) :
    commandCycle p verb operand gone s = s.replied p verb operand gone y (responseWord verb r :: more) := by
  rw [commandCycle_performVerb h operand gone, hverb, completeCycle_respond_hearing]

/-- A verb that acts on the client ports no more than it reads them, after its response. -/
theorem commandCycle_responds_then (f : State → State) (hf : Portless f) (h : s.takesVerb p y (verbNeed verb))
    (hverb : performVerb p (s.timed y) (commandWord verb operand) (s.hearing p verb operand gone y) =
      f (respond p verb r more (s.hearing p verb operand gone y))) :
    commandCycle p verb operand gone s = f (s.replied p verb operand gone y (responseWord verb r :: more)) := by
  rw [commandCycle_performVerb h operand gone, hverb, hf.completeCycle, completeCycle_respond_hearing]

end Performed

/-! ### BEGIN (03 R56) -/

section Begin

variable {s : State} {p : Port} {y : Session} {operand : Byte} {gone : Bool}

theorem scBegin_of_refused {r : Result} (hr : s.beginResult p y = r) (hne : r ≠ .ok) :
    scBegin p y s = respond p 0x03#8 r [] s := by
  simp only [scBegin, hr, if_neg hne]

theorem scBegin_of_ok (hr : s.beginResult p y = .ok) :
    scBegin p y s = raise .txnBegun (.port p) none 0#16 (BitVec.ofNat 16 s.stageFree)
      ((respond p 0x03#8 .ok [] s).setTxn p Txn.begun) := by
  simp only [scBegin, hr, if_true]

theorem exec_beginTxn_refused {r : Result} (h : s.takesVerb p y 1) (hr : s.beginResult p y = r) (hne : r ≠ .ok) :
    exec (.beginTxn ⟨p, gone⟩ operand) s = .next (s.replied p 0x03#8 operand gone y [responseWord 0x03#8 r]) :=
  congrArg Host.Outcome.next (commandCycle_responds (verb := 0x03#8) h ((performVerb_begin ..).trans
    (scBegin_of_refused (y := s.timed y) hr hne)))

theorem exec_beginTxn_begins (h : s.takesVerb p y 1) (hok : s.beginResult p y = .ok) :
    exec (.beginTxn ⟨p, gone⟩ operand) s =
      .next (raise .txnBegun (.port p) none 0#16 (BitVec.ofNat 16 s.stageFree)
        ((s.replied p 0x03#8 operand gone y [responseWord 0x03#8 .ok]).setTxn p Txn.begun)) := by
  have hfree : (s.hearing p 0x03#8 operand gone y).stageFree = s.stageFree := rfl
  have hbegins := scBegin_of_ok (s := s.hearing p 0x03#8 operand gone y) (y := s.timed y) hok
  rw [hfree] at hbegins
  exact congrArg Host.Outcome.next (commandCycle_responds_then
    (fun t => raise .txnBegun (.port p) none 0#16 (BitVec.ofNat 16 s.stageFree) (t.setTxn p Txn.begun))
    ((raise_portless ..).comp ⟨fun _ _ _ => rfl⟩) (verb := 0x03#8) h ((performVerb_begin ..).trans hbegins))

end Begin

/-- Settles O47: each branch is one answer of `beginResult`. -/
theorem beginCreatesTheTransaction : Obligations.BeginCreatesTheTransaction := by
  intro s p y operand gone h reply answers
  have hrefused {r : Result} (hr : s.beginResult p y = r) (hne : r ≠ .ok) :
      answers (s.replied p 0x03#8 operand gone y [responseWord 0x03#8 r]) := exec_beginTxn_refused h hr hne
  have hcapacity : s.journalEntries = 0 ↔ s.active.journalCapacity = 0#16 := by
    rw [State.journalEntries, ← BitVec.toNat_inj]
    rfl
  refine ⟨fun htxn => hrefused (r := .denied) ?_ nofun, fun htxn hnone => hrefused (r := .none) ?_ nofun,
    fun htxn hsome => ⟨fun hbusy => hrefused (r := .busy) ?_ nofun,
      fun hfree => ⟨fun hfaulted => hrefused (r := .engineFault) ?_ nofun, fun hsound => ?_⟩⟩⟩
  · simp [State.beginResult, htxn]
  · simp [State.beginResult, htxn, hcapacity.mpr hnone]
  · simp [State.beginResult, htxn, mt hcapacity.mp hsome, hbusy]
  · simp [State.beginResult, htxn, mt hcapacity.mp hsome, hfree, hfaulted]
  · have hok : s.beginResult p y = .ok := by
      simp [State.beginResult, htxn, mt hcapacity.mp hsome, hfree, hsound]
    exact exec_beginTxn_begins h hok

/-! ### COMMIT (03 R57, 05 R104) -/

section Commit

variable {s : State} {p : Port} {y : Session} {operand : Byte} {gone : Bool}

theorem scCommit_of_refused {r : Result} (hr : s.commitResult p y = r) (hok : r ≠ .ok) (haccepted : r ≠ .accepted) :
    scCommit p y s = respond p 0x04#8 r [] s := by
  simp only [scCommit, hr, if_neg hok, if_neg haccepted]

theorem scCommit_of_empty (hr : s.commitResult p y = .ok) :
    scCommit p y s = endTxn p .empty (respond p 0x04#8 .ok [] s) := by
  simp only [scCommit, hr, if_true]

theorem scCommit_of_accepted (hr : s.commitResult p y = .accepted) :
    scCommit p y s = takeWhenTwo (setAwaited p (queueTxn p (respond p 0x04#8 .accepted [] s))) := by
  simp only [scCommit, hr, if_true, reduceCtorEq, if_false]

theorem setAwaited_of_session (h : s.sessions.get p = some y) :
    setAwaited p s = s.setSession p (some { y with awaited := true }) := by
  simp only [setAwaited, h]

theorem setAwaited_portless : Portless (setAwaited p) := by
  refine ⟨fun s q c => ?_⟩
  unfold setAwaited
  rw [setPort_sessions]
  split <;> rfl

theorem takeWhenTwo_portless : Portless takeWhenTwo :=
  .ite (fun _ _ _ => Iff.rfl) engineTake_portless .id

theorem queueTxn_portless : Portless (queueTxn p) := ⟨fun _ _ _ => rfl⟩

theorem takeWhenTwo_of_short (h : s.commitQueue.length < 2) : takeWhenTwo s = s := if_neg (Nat.not_le.mpr h)

theorem engineTake_of_busy (h : s.engine.state ≠ .idle) : engineTake s = s := by
  unfold engineTake
  split
  · next hidle _ => exact absurd hidle h
  · rfl

theorem takeWhenTwo_of_busy (h : s.engine.state ≠ .idle) : takeWhenTwo s = s := by
  unfold takeWhenTwo
  split
  · exact engineTake_of_busy h
  · rfl

theorem takeWhenTwo_of_two (h : 2 ≤ s.commitQueue.length) : takeWhenTwo s = engineTake s := if_pos h

theorem exec_commitTxn_refused {r : Result} (h : s.takesVerb p y 1) (hr : s.commitResult p y = r) (hok : r ≠ .ok)
    (haccepted : r ≠ .accepted) :
    exec (.commitTxn ⟨p, gone⟩ operand) s = .next (s.replied p 0x04#8 operand gone y [responseWord 0x04#8 r]) :=
  congrArg Host.Outcome.next (commandCycle_responds (verb := 0x04#8) h ((performVerb_commit ..).trans
    (scCommit_of_refused (y := s.timed y) hr hok haccepted)))

theorem exec_commitTxn_empty (h : s.takesVerb p y 1) (hr : s.commitResult p y = .ok) :
    exec (.commitTxn ⟨p, gone⟩ operand) s =
      .next (endTxn p .empty (s.replied p 0x04#8 operand gone y [responseWord 0x04#8 .ok])) :=
  congrArg Host.Outcome.next (commandCycle_responds_then (endTxn p .empty) (endTxn_portless p .empty) (verb := 0x04#8) h
    ((performVerb_commit ..).trans (scCommit_of_empty (y := s.timed y) hr)))

theorem exec_commitTxn_accepted (h : s.takesVerb p y 1) (hr : s.commitResult p y = .accepted) :
    exec (.commitTxn ⟨p, gone⟩ operand) s = .next (takeWhenTwo (setAwaited p (queueTxn p
      (s.replied p 0x04#8 operand gone y [responseWord 0x04#8 .accepted])))) :=
  congrArg Host.Outcome.next (commandCycle_responds_then (fun t => takeWhenTwo (setAwaited p (queueTxn p t)))
    (takeWhenTwo_portless.comp (setAwaited_portless.comp queueTxn_portless)) (verb := 0x04#8) h
    ((performVerb_commit ..).trans (scCommit_of_accepted (y := s.timed y) hr)))

end Commit

/-- Settles O48: each branch is one answer of `commitResult`; an accepted commit is queued, and taken at once when it
is the second in the queue of an IDLE engine. -/
theorem commitAcceptsTheTransaction : Obligations.CommitAcceptsTheTransaction := by
  intro s p y operand gone h reply answers accepted
  have hrefused {r : Result} (hr : s.commitResult p y = r) (hok : r ≠ .ok) (hne : r ≠ .accepted) :
      answers (s.replied p 0x04#8 operand gone y [responseWord 0x04#8 r]) := exec_commitTxn_refused h hr hok hne
  refine ⟨fun htxn => hrefused (r := .denied) ?_ nofun nofun, fun htxn =>
    ⟨fun hnone => hrefused (r := .none) ?_ nofun nofun, fun hover => hrefused (r := .tooLarge) ?_ nofun nofun,
      fun hbusy => hrefused (r := .busy) ?_ nofun nofun, fun hstaging =>
        ⟨fun hfaulted => hrefused (r := .engineFault) ?_ nofun nofun,
          fun hsound => ⟨fun hempty => ?_, fun hentries => ?_⟩⟩⟩⟩
  · simp [State.commitResult, htxn]
  · simp [State.commitResult, htxn, hnone]
  · simp [State.commitResult, htxn, hover]
  · cases hstate : (s.txns.get p).state <;> simp_all [State.commitResult, inEngine]
  · simp [State.commitResult, htxn, hstaging, hfaulted]
  · have hok : s.commitResult p y = .ok := by simp [State.commitResult, htxn, hstaging, hsound, hempty]
    exact exec_commitTxn_empty h hok
  have hresult : s.commitResult p y = .accepted := by simp [State.commitResult, htxn, hstaging, hsound, hentries]
  have haccepted : setAwaited p (queueTxn p (s.replied p 0x04#8 operand gone y [responseWord 0x04#8 .accepted])) =
      accepted := by
    have hsession : (queueTxn p (s.replied p 0x04#8 operand gone y [responseWord 0x04#8 .accepted])).sessions.get p =
        some { y with
          idleTimer := .running (s.active.sessionIdle.toNat * 100), responses := y.responses ++ [0x0401#16] } :=
      PerPort_get_set_same ..
    rw [setAwaited_of_session hsession]
    rfl
  have hexec := exec_commitTxn_accepted (operand := operand) (gone := gone) h hresult
  rw [haccepted] at hexec
  refine ⟨fun hqueue => hexec.trans (congrArg _ (takeWhenTwo_of_short ?_)),
    fun hbusy => hexec.trans (congrArg _ (takeWhenTwo_of_busy hbusy)),
    fun hidle hqueue => hexec.trans (congrArg _ (takeWhenTwo_of_two ?_))⟩
  · change (s.commitQueue ++ [p]).length < 2
    rw [hqueue]
    exact Nat.one_lt_two
  · change 2 ≤ (s.commitQueue ++ [p]).length
    rw [List.length_append]
    exact Nat.succ_le_succ (List.length_pos_iff.mpr hqueue)

/-! ### ABORT (03 R58, 05 R105) -/

section Abort

variable {s : State} {p : Port} {y : Session} {operand : Byte} {gone : Bool}

theorem scAbort_of_refused {r : Result} (hr : s.abortResult p y = r) (hne : r ≠ .ok) :
    scAbort p y s = respond p 0x05#8 r [] s := by
  simp only [scAbort, hr, if_neg hne]

theorem scAbort_of_logging (hr : s.abortResult p y = .ok) (h : (s.txns.get p).state = .logging) :
    scAbort p y s = stopEngine .abort (respond p 0x05#8 .ok [] s) := by
  simp only [scAbort, hr, h, if_true]

theorem scAbort_of_not_logging (hr : s.abortResult p y = .ok) (h : (s.txns.get p).state ≠ .logging) :
    scAbort p y s = endTxn p .aborted (respond p 0x05#8 .ok [] s) := by
  simp only [scAbort, hr, if_true, if_neg h]

theorem exec_abortTxn_refused {r : Result} (h : s.takesVerb p y 1) (hr : s.abortResult p y = r) (hne : r ≠ .ok) :
    exec (.abortTxn ⟨p, gone⟩ operand) s = .next (s.replied p 0x05#8 operand gone y [responseWord 0x05#8 r]) :=
  congrArg Host.Outcome.next (commandCycle_responds (verb := 0x05#8) h ((performVerb_abort ..).trans
    (scAbort_of_refused (y := s.timed y) hr hne)))

theorem exec_abortTxn_logging (h : s.takesVerb p y 1) (hr : s.abortResult p y = .ok)
    (hlogging : (s.txns.get p).state = .logging) :
    exec (.abortTxn ⟨p, gone⟩ operand) s =
      .next (stopEngine .abort (s.replied p 0x05#8 operand gone y [responseWord 0x05#8 .ok])) :=
  congrArg Host.Outcome.next (commandCycle_responds_then (stopEngine .abort) (stopEngine_portless .abort)
    (verb := 0x05#8) h ((performVerb_abort ..).trans (scAbort_of_logging (y := s.timed y) hr hlogging)))

theorem exec_abortTxn_ends (h : s.takesVerb p y 1) (hr : s.abortResult p y = .ok)
    (hother : (s.txns.get p).state ≠ .logging) :
    exec (.abortTxn ⟨p, gone⟩ operand) s =
      .next (endTxn p .aborted (s.replied p 0x05#8 operand gone y [responseWord 0x05#8 .ok])) :=
  congrArg Host.Outcome.next (commandCycle_responds_then (endTxn p .aborted) (endTxn_portless p .aborted)
    (verb := 0x05#8) h ((performVerb_abort ..).trans (scAbort_of_not_logging (y := s.timed y) hr hother)))

end Abort

/-- Settles O49: each branch is one answer of `abortResult`; a transaction in LOGGING is left to the engine's stop. -/
theorem abortEndsTheTransaction : Obligations.AbortEndsTheTransaction := by
  intro s p y operand gone h reply answers
  have hrefused {r : Result} (hr : s.abortResult p y = r) (hne : r ≠ .ok) :
      answers (s.replied p 0x05#8 operand gone y [responseWord 0x05#8 r]) := exec_abortTxn_refused h hr hne
  refine ⟨fun htxn => hrefused (r := .denied) ?_ nofun, fun htxn =>
    ⟨fun hnone => hrefused (r := .none) ?_ nofun, fun hlate => hrefused (r := .tooLate) ?_ nofun,
      fun hheld => ?_, fun hlogging => ?_⟩⟩
  · simp [State.abortResult, htxn]
  · simp [State.abortResult, htxn, hnone]
  · obtain hstate | hstate := hlate <;> simp [State.abortResult, htxn, hstate]
  · have hok : s.abortResult p y = .ok := by
      obtain hstate | hstate | hstate := hheld <;> simp [State.abortResult, htxn, hstate]
    have hne : (s.txns.get p).state ≠ .logging := by
      obtain hstate | hstate | hstate := hheld <;> rw [hstate] <;> nofun
    exact exec_abortTxn_ends h hok hne
  · have hok : s.abortResult p y = .ok := by simp [State.abortResult, htxn, hlogging]
    exact exec_abortTxn_logging h hok hlogging

/-! ### ALERT_MASK and unknown verbs (03 R53, R61) -/

theorem badVerb_wellFormed_iff {p : Port} {gone : Bool} {verb operand : Byte} :
    (Instr.badVerb ⟨p, gone⟩ verb operand).wellFormed = true ↔ knownVerb verb = false := by
  simp [Instr.wellFormed]

theorem verbNeed_of_unknown {verb : Byte} (h : knownVerb verb = false) : verbNeed verb = 1 := by
  simp only [knownVerb, Bool.and_eq_false_iff, decide_eq_false_iff_not] at h
  exact verbNeed_of_toNat (by omega) (by omega) (by omega)

section Masks

variable {s : State} {p : Port} {y : Session} {operand : Byte} {gone : Bool}

theorem exec_alertMask (h : s.takesVerb p y 1) : exec (.alertMask ⟨p, gone⟩ operand) s =
    .next ((s.replied p 0x08#8 operand gone y [responseWord 0x08#8 .ok]).setAlertMask p operand) := by
  have hmask (t : State) (ht : t.sessions.get p = some (s.timed y)) : scAlertMask p operand t =
      (respond p 0x08#8 .ok [] t).setAlertMask p operand := by
    rw [scAlertMask, respond_session _ _ _ _ t _ ht,
      respond_session _ _ _ _ (t.setAlertMask p operand) _ ht]
    rfl
  exact congrArg Host.Outcome.next (commandCycle_responds_then (fun t => t.setAlertMask p operand)
    ⟨fun _ _ _ => rfl⟩ (verb := 0x08#8) h ((performVerb_alertMask ..).trans (hmask _ (hearing_session ..))))

theorem exec_badVerb {verb : Byte} (h : s.takesVerb p y 1) (hverb : knownVerb verb = false) :
    exec (.badVerb ⟨p, gone⟩ verb operand) s =
      .next (s.replied p verb operand gone y [responseWord verb .badVerb]) :=
  congrArg Host.Outcome.next (commandCycle_responds ((verbNeed_of_unknown hverb).symm ▸ h)
    (performVerb_unknown _ _ _ _ hverb))

end Masks

/-- Settles O52: each verb is the cycle of its command word, answered once the space test has passed. -/
theorem maskIsSetAndUnknownVerbsAnswered : Obligations.MaskIsSetAndUnknownVerbsAnswered :=
  ⟨fun _ _ _ _ _ h => exec_alertMask h, fun _ _ _ _ _ _ h hunknown =>
    exec_badVerb h (badVerb_wellFormed_iff.mp hunknown)⟩

/-! ### The full queue (03 R51) -/

theorem setSession_setSession (s : State) (p : Port) (y z : Option Session) :
    (s.setSession p y).setSession p z = s.setSession p z := by
  simp only [State.setSession, PerPort_set_set]

section Overrun

variable {s : State} {p : Port} {y : Session} {verb : Byte}

theorem commandCycle_overruns (h : s.takesVerb p y 0) (hfull : freeWords y < verbNeed verb) (operand : Byte)
    (gone : Bool) : commandCycle p verb operand gone s =
      raise .commandOverrun (.port p) none (verb ++ operand) (BitVec.ofNat 16 (8 - y.responses.length))
        ((s.replied p verb operand gone y []).setSession p (some { y with
          idleTimer := .running (s.active.sessionIdle.toNat * 100), overrun := true })) := by
  have hshort : freeWords (s.timed y) < verbNeed (verbByte (commandWord verb operand)) := by
    rw [verbByte_commandWord, freeWords_timed]
    exact hfull
  refine (commandCycle_session p verb operand gone s y 0 h).trans ?_
  refine (congrArg (completeCycle p none) (if_pos hshort)).trans ((completeCycle_raise ..).trans ?_)
  rw [setSession_setSession, State.replied, setSession_setSession, ← completeCycle_taken]
  rfl

end Overrun

/-- Settles O53: each command is one command word, whose verb needs more free words than there are. -/
theorem fullQueueRefusesTheCommand : Obligations.FullQueueRefusesTheCommand := by
  intro s p y operand unknown gone c verb need htakes hready hopen hfull hunknown hc
  have htakes : s.takesVerb p y 0 := ⟨htakes, hready, hopen, Nat.zero_le _⟩
  have hneed := verbNeed_of_unknown (badVerb_wellFormed_iff.mp hunknown)
  simp only [List.mem_cons, List.not_mem_nil, or_false, Prod.mk.injEq] at hc
  have hword : verbNeed verb = need ∧ exec c s = .next (commandCycle p verb operand gone s) := by
    rcases hc with ⟨rfl, rfl, rfl⟩ | ⟨rfl, rfl, rfl⟩ | ⟨rfl, rfl, rfl⟩ | ⟨rfl, rfl, rfl⟩ | ⟨rfl, rfl, rfl⟩ |
      ⟨rfl, rfl, rfl⟩ | ⟨rfl, rfl, rfl⟩ | ⟨rfl, rfl, rfl⟩ | ⟨rfl, rfl, rfl⟩
    case inr.inr.inr.inr.inr.inr.inr.inr => exact ⟨hneed, rfl⟩
    all_goals exact ⟨rfl, rfl⟩
  obtain ⟨rfl, hexec⟩ := hword
  exact hexec.trans (congrArg _ (commandCycle_overruns htakes hfull operand gone))

/-! ### Reads of the command address (03 R50) -/

section Answers

variable {s : State} {p : Port} {x : Session}

theorem commandAnswer_of_words {w : Word} {rest : List Word} (h : x.responses = w :: rest) :
    s.commandAnswer p x = w := by
  simp only [State.commandAnswer, h]

theorem commandAnswer_of_empty (h : x.responses = []) : s.commandAnswer p x = s.statusWord p x := by
  simp only [State.commandAnswer, h]

theorem afterCommandRead_of_words {w : Word} {rest : List Word} (h : x.responses = w :: rest) :
    afterCommandRead x = { x with responses := rest } := by
  simp only [afterCommandRead, h]

theorem afterCommandRead_of_empty (h : x.responses = []) : afterCommandRead x = { x with overrun := false } := by
  simp only [afterCommandRead, h]

theorem getLsbD_of_extractLsb'_one {n i : Nat} {v : BitVec n} {b : Bool} (h : v.extractLsb' i 1 = BitVec.ofBool b) :
    v.getLsbD i = b := by
  have hbit := congrArg (BitVec.getLsbD · 0) h
  simpa using hbit

/-- The fields of the session status word (11 Table 11-6). -/
theorem sessionStatusWord_fields (key : Fin 4) (overrun alert : Bool) (t : TxnState) :
    (sessionStatusWord key overrun alert t).extractLsb' 8 8 = 0x80#8 + BitVec.ofNat 8 key.val ∧
    (sessionStatusWord key overrun alert t).getLsbD 7 = overrun ∧
    (sessionStatusWord key overrun alert t).getLsbD 6 = alert ∧
    (sessionStatusWord key overrun alert t).extractLsb' 3 3 = 0#3 ∧
    (sessionStatusWord key overrun alert t).extractLsb' 0 3 = txnStateCode t := by
  unfold sessionStatusWord
  refine ⟨BitVec.extractLsb'_append_eq_left, ?_, ?_, ?_, ?_⟩
  · refine (getLsbD_of_extractLsb'_one (b := overrun) ?_)
    rw [BitVec.extractLsb'_append_eq_of_add_le (by omega), BitVec.extractLsb'_append_eq_left]
  · refine (getLsbD_of_extractLsb'_one (b := alert) ?_)
    rw [BitVec.extractLsb'_append_eq_of_add_le (by omega), extractLsb'_append_middle]
  · rw [BitVec.extractLsb'_append_eq_of_add_le (by omega), BitVec.extractLsb'_append_eq_of_add_le (by omega),
      extractLsb'_append_middle]
  · rw [BitVec.extractLsb'_append_eq_of_add_le (by omega), BitVec.extractLsb'_append_eq_of_add_le (by omega),
      extractLsb'_append_low]

end Answers

section CommandReads

variable {s : State} {p : Port} {y : Session} {kind : AccessKind} {gone : Bool}

theorem restartIdle_of_session (h : s.sessions.get p = some y) :
    restartIdle p s = s.setSession p (some (s.timed y)) := by
  simp only [restartIdle, h]
  rfl

/-- After READY an access of a port in session to its command address is the session controller's. -/
theorem clientCycle_session (h : s.canTake p) (hready : s.stage = .operating) (hopen : s.sessions.get p = some y) :
    clientCycle p kind (s.commandAddress p) gone s =
      takeCommandAccess p (s.timed y) kind (s.judging p kind (s.commandAddress p) gone) := by
  rw [clientCycle_taken p kind _ gone s h, settleCycle_ready _ _ _ _ (by exact hready), decideAccess,
    (restartIdle_portless p).setPort]
  have hat : (s.judging p kind (s.commandAddress p) gone).sessionAt p (s.commandAddress p) = some (s.timed y) := by
    rw [State.judging, restartIdle_of_session hopen]
    simp [State.sessionAt, State.commandAddress, State.active]
  have hjudging : (restartIdle p s).setPort p (heldPort kind (s.commandAddress p) gone (s.ports.get p)) =
      s.judging p kind (s.commandAddress p) gone := rfl
  simp only [hjudging, hat]

theorem exec_commandAddressRead (h : s.canTake p) (hready : s.stage = .operating)
    (hopen : s.sessions.get p = some y) : exec (.commandAddressRead ⟨p, gone⟩) s =
      .next ((s.withEnded p .read (s.commandAddress p) gone (some (s.commandAnswer p y))).setSession p
        (some (afterCommandRead (s.timed y)))) := by
  refine congrArg Host.Outcome.next ((clientCycle_session h hready hopen).trans ?_)
  have hanswer : (s.judging p .read (s.commandAddress p) gone).commandAnswer p (s.timed y) = s.commandAnswer p y := by
    rw [judging_frame]
    rfl
  rw [takeCommandAccess, hanswer]
  change (completeCycle p _ (s.judging ..)).setSession p _ = _
  rw [completeCycle_judging, restartIdle_of_session hopen]
  exact setSession_setSession (s.withEnded ..) ..

end CommandReads

/-- Settles O44: the answer and what is left of the queue go by whether the queue holds a word. -/
theorem commandAddressReadsTheQueue : Obligations.CommandAddressReadsTheQueue := by
  refine ⟨fun s p y gone h hready hopen => ?_, fun s p gone => rfl⟩
  intro x timed
  have hexec := exec_commandAddressRead (gone := gone) h hready hopen
  refine ⟨fun w rest hwords => ?_, fun hempty => ⟨s.statusWord p y, ?_, ?_⟩⟩
  · rw [hexec, commandAnswer_of_words hwords, afterCommandRead_of_words (x := s.timed y) hwords]
    rfl
  · rw [hexec, commandAnswer_of_empty hempty, afterCommandRead_of_empty (x := s.timed y) hempty]
    rfl
  · exact sessionStatusWord_fields ..

/-! ### Leases that are spent and that end (04 R72 to R79) -/

theorem satSucc_eq (n : Word) : satSucc n = if n = 0xFFFF#16 then 0xFFFF#16 else n + 1#16 := by
  unfold satSucc
  split
  · next h => exact h
  · rfl

section LeaseEnds

variable {s : State} {p : Port} {w : Fin 16} {r : LeaseRecord}

theorem exec_lifetimeTimerExpiry_of_running (h : s.lease w = .leased r) (hrunning : r.lifetime ≠ .stopped) :
    exec (.lifetimeTimerExpiry w) s = .next (raise .leaseEnded (.port r.holder) (some w) (leaseCauseCode .lifetime)
      r.count (s.setLease w (afterLease (s.window w)))) := by
  change execLifetimeTimerExpiry w s = _
  rw [execLifetimeTimerExpiry, h]
  exact congrArg _ ((if_neg hrunning).trans (endLease_leased w .lifetime s r h))

theorem exec_lifetimeTimerExpiry_of_idle (h : ∀ r, s.lease w = .leased r → r.lifetime = .stopped) :
    exec (.lifetimeTimerExpiry w) s = .next s := by
  change execLifetimeTimerExpiry w s = _
  rw [execLifetimeTimerExpiry]
  cases hl : s.lease w with
  | leased r => exact congrArg _ (if_pos (h r hl))
  | closed => rfl
  | holdoff ms => rfl

theorem exec_holdoffTimerExpiry_of_holdoff {ms : Nat} (h : s.lease w = .holdoff ms) :
    exec (.holdoffTimerExpiry w) s = .next (s.setLease w .closed) := by
  change execHoldoffTimerExpiry w s = _
  rw [execHoldoffTimerExpiry, h]

theorem exec_holdoffTimerExpiry_of_closed (h : s.lease w = .closed) : exec (.holdoffTimerExpiry w) s = .next s := by
  change execHoldoffTimerExpiry w s = _
  rw [execHoldoffTimerExpiry, h]

end LeaseEnds

/-- Settles O55: by the state of the lease, LEASED, HOLDOFF or CLOSED. -/
theorem leasesSpendAndEnd : Obligations.LeasesSpendAndEnd := by
  refine ⟨fun s w r => ?leased, fun s w ms h => ?holdoff, fun s w h => ?closed⟩
  case holdoff =>
    have hunleased : ∀ r, s.lease w ≠ .leased r := fun r => by rw [h]; nofun
    exact ⟨exec_holdoffTimerExpiry_of_holdoff h,
      exec_lifetimeTimerExpiry_of_idle fun r hr => absurd hr (hunleased r), fun p => spendUnit_of_unleased hunleased⟩
  case closed =>
    have hunleased : ∀ r, s.lease w ≠ .leased r := fun r => by rw [h]; nofun
    exact ⟨exec_holdoffTimerExpiry_of_closed h,
      exec_lifetimeTimerExpiry_of_idle fun r hr => absurd hr (hunleased r), fun p => spendUnit_of_unleased hunleased⟩
  case leased =>
    intro after h
    refine ⟨fun hrunning => exec_lifetimeTimerExpiry_of_running h hrunning, fun hstopped => ?_, fun p => ?_⟩
    · exact exec_lifetimeTimerExpiry_of_idle fun r' hr' => by rw [h] at hr'; cases hr'; exact hstopped
    intro count
    have hcount : satSucc r.count = count := satSucc_eq r.count
    have hspent (budget : Option Word) (hbudget : r.budget = budget) : spentLease r = { r with
        count := count, budget := budget.map (· - 1#16) } := by
      rw [spentLease, hcount, hbudget]
    refine ⟨fun hother => spendUnit_of_other h hother, fun hholder hunlimited => ?_,
      fun b hholder hbudget hmore => ?_, fun hholder hlast => ?_⟩
    · have hleft := hspent none hunlimited
      rw [spendUnit_of_left h hholder (by rw [hleft]; nofun), hleft, Option.map_none, ← hunlimited]
    · have hleft := hspent (some b) hbudget
      have hsome : b - 1#16 ≠ 0#16 := fun hzero => hmore (by bv_omega)
      rw [spendUnit_of_left h hholder (by rw [hleft]; exact fun hc => hsome (Option.some.inj hc)), hleft]
      rfl
    · have hleft := hspent (some 1#16) hlast
      rw [spendUnit_of_spent h hholder (by rw [hleft]; rfl), hleft]
      rfl

end Sys2Proof.Machine

/-! SUPPORT. The oldest event delivered (03 R60, 09 R175), and the ends of a session by END and by the idle timer
(03 R46, R64, R65). -/

namespace Sys2Proof.Machine

/-! ### NEXT_EVENT (03 R60, 09 R175) -/

section Delivery

variable {p : Port} {before after : List EventRecord} {r : EventRecord}

/-- The take passes over the records that do not concern the port. -/
theorem takeRecord_of_oldest (hbefore : ∀ o ∈ before, o.notice.audience.get p = false)
    (hr : r.notice.audience.get p = true) : takeRecord p (before ++ r :: after) =
      before ++ (if r.notice.audience.get (otherPort p) then [withoutPort p r] else []) ++ after := by
  induction before with
  | nil =>
    rw [List.nil_append, List.nil_append, takeRecord, if_pos hr]
    split <;> rfl
  | cons o rest ih =>
    obtain ⟨ho, hrest⟩ := List.forall_mem_cons.mp hbefore
    rw [List.cons_append, takeRecord, if_neg (by simp [ho]), ih hrest]
    rfl

theorem oldestFor_of_oldest {s : State} (hrecords : s.records = before ++ r :: after)
    (hbefore : ∀ o ∈ before, o.notice.audience.get p = false) (hr : r.notice.audience.get p = true) :
    s.oldestFor p = some r := by
  have hnone : before.find? (fun o => o.notice.audience.get p) = none :=
    List.find?_eq_none.mpr fun o ho => by simp [hbefore o ho]
  rw [State.oldestFor, hrecords, List.find?_append, hnone, Option.none_or]
  exact List.find?_cons_of_pos hr

theorem oldestFor_eq_none {s : State} (h : ∀ r ∈ s.records, r.notice.audience.get p = false) : s.oldestFor p = none :=
  List.find?_eq_none.mpr fun r hr => by simp [h r hr]

end Delivery

section NextEvent

variable {s : State} {p : Port} {y : Session} {operand : Byte} {gone : Bool}

theorem scNextEvent_of_denied (h : y.events = false ∨ s.reader p = false) :
    scNextEvent p y s = respond p 0x07#8 .denied [] s :=
  if_pos (by obtain h | h := h <;> simp [h])

section Reader

variable (hevents : y.events = true) (hreader : s.reader p = true)

include hevents hreader

theorem scNextEvent_of_none (h : s.oldestFor p = none) : scNextEvent p y s = respond p 0x07#8 .none [] s := by
  simp [scNextEvent, hevents, hreader, h]

theorem scNextEvent_of_some {r : EventRecord} (h : s.oldestFor p = some r) :
    scNextEvent p y s = respond p 0x07#8 .ok (recordWords r) { s with records := takeRecord p s.records } := by
  simp [scNextEvent, hevents, hreader, h]

end Reader

theorem respond_records (verb : Byte) (r : Result) (more : List Word) (rs : List EventRecord) :
    respond p verb r more { s with records := rs } = { respond p verb r more s with records := rs } := by
  unfold respond pushWords
  dsimp only
  split <;> rfl

theorem exec_nextEvent_denied (h : s.takesVerb p y 6) (hdenied : y.events = false ∨ s.reader p = false) :
    exec (.nextEvent ⟨p, gone⟩ operand) s =
      .next (s.replied p 0x07#8 operand gone y [responseWord 0x07#8 .denied]) :=
  congrArg Host.Outcome.next (commandCycle_responds (verb := 0x07#8) h ((performVerb_nextEvent ..).trans
    (scNextEvent_of_denied (y := s.timed y) hdenied)))

theorem exec_nextEvent_none (h : s.takesVerb p y 6) (hevents : y.events = true) (hreader : s.reader p = true)
    (hnone : ∀ r ∈ s.records, r.notice.audience.get p = false) :
    exec (.nextEvent ⟨p, gone⟩ operand) s =
      .next (s.replied p 0x07#8 operand gone y [responseWord 0x07#8 .none]) :=
  congrArg Host.Outcome.next (commandCycle_responds (verb := 0x07#8) h ((performVerb_nextEvent ..).trans
    (scNextEvent_of_none (y := s.timed y) hevents hreader (oldestFor_eq_none hnone))))

theorem exec_nextEvent_delivers {r : EventRecord} (h : s.takesVerb p y 6) (hevents : y.events = true)
    (hreader : s.reader p = true) (hr : s.oldestFor p = some r) :
    exec (.nextEvent ⟨p, gone⟩ operand) s =
      .next { s.replied p 0x07#8 operand gone y (responseWord 0x07#8 .ok :: recordWords r) with
        records := takeRecord p s.records } := by
  have hanswer := scNextEvent_of_some (s := s.hearing p 0x07#8 operand gone y) (y := s.timed y) hevents hreader hr
  rw [respond_records] at hanswer
  exact congrArg Host.Outcome.next (commandCycle_responds_then
    (fun t => { t with records := takeRecord p s.records }) ⟨fun _ _ _ => rfl⟩ (verb := 0x07#8) h
    ((performVerb_nextEvent ..).trans hanswer))

end NextEvent

/-- Settles O51: the oldest record that concerns the port is found behind the records that do not, and is taken
there. -/
theorem nextEventDeliversTheOldest : Obligations.NextEventDeliversTheOldest := by
  intro s p y operand gone h reply answers
  refine ⟨fun hdenied => ?_, fun hevents hreader => ⟨fun hnone => ?_, fun before after r hrecords hbefore hr => ?_⟩⟩
  · exact exec_nextEvent_denied h hdenied
  · exact exec_nextEvent_none h hevents hreader hnone
  · have hexec := exec_nextEvent_delivers (operand := operand) (gone := gone) h hevents hreader
      (oldestFor_of_oldest hrecords hbefore hr)
    rw [hrecords, takeRecord_of_oldest hbefore hr] at hexec
    exact hexec

/-! ### END and the idle timer (03 R46, R64) -/

section SessionEnds

variable {s u : State} {p : Port} {y : Session} {verb operand : Byte} {gone : Bool} {c : SessionCause}

theorem hearing_sessions_set (z : Option Session) :
    (s.hearing p verb operand gone y).sessions.set p z = s.sessions.set p z := PerPort_set_set ..

/-- The end of a session in a command's cycle is, the port's cycle apart, its end in the state before the cycle. -/
theorem SessionEnded.of_hearing (h : SessionEnded (s.hearing p verb operand gone y) u p c) :
    SessionEnded s (completeCycle p none u) p c := by
  obtain ⟨hframe, hended, hkept, hstaged, hcut, hraised⟩ := h
  rw [hearing_sessions_set] at hframe
  refine ⟨?_, hended, hkept, hstaged, hcut, hraised⟩
  rw [completeCycle_frame]
  exact congrArg (fun t : State => { t with ports := (completeCycle p none u).ports }) hframe

theorem closeSession_ports : (closeSession p c s).ports = s.ports := by
  rw [closeSession_frame]

end SessionEnds

/-- Settles O54: both are the end of the session, after the command cycle and at the expiry. -/
theorem endAndIdleExpiryEndTheSession : Obligations.EndAndIdleExpiryEndTheSession := by
  refine ⟨fun s p y operand gone h => ?ended, fun s p y hopen => ?idle, fun s p hnone => ?without⟩
  case ended =>
    have hcycle := commandCycle_performVerb (verb := 0x09#8) h operand gone
    rw [performVerb_end, scEnd, endSession_of_some (hearing_session ..)] at hcycle
    refine ⟨_, congrArg Host.Outcome.next hcycle, (closeSession_ended ..).of_hearing, ?_⟩
    rw [completeCycle, closeSession_ports, setPort_ports, closeSession_ports]
    exact (congrArg State.ports (completeCycle_taken s p _ _ gone none) :)
  case idle =>
    exact ⟨_, congrArg Host.Outcome.next (endSession_of_some hopen .idle), closeSession_ended .., closeSession_ports⟩
  case without => exact congrArg Host.Outcome.next (endSession_of_none hnone .idle)

end Sys2Proof.Machine

/-! SUPPORT. The entry into the power fence, as a whole (08 R158, R162, R163). -/

namespace Sys2Proof.Machine

/-! ### Transactions that end together -/

/-- An entry stays where the transactions that a test names end. -/
def staysAfter (ends : Port → Bool) (e : Entry) : Bool :=
  match e.owner with
  | .port p => !ends p
  | .recovery => true

/-- From s to t the transactions that `ends` names have ended, their entries have left, and the links that `cut` names
are cut. -/
structure TxnsEnded (s t : State) (ends cut : Port → Bool) : Prop where
  txns : ∀ p, t.txns.get p = if ends p then Txn.empty
    else { s.txns.get p with linked := if cut p then false else (s.txns.get p).linked }
  sb : t.sb = s.sb.filter (staysAfter ends)
  claim : ∀ w : Fin 16, t.claim w = (s.claim w).filter (fun p => !ends p)

theorem staysAfter_port (p : Port) (e : Entry) :
    staysAfter (fun q => decide (q = p)) e = decide (e.owner ≠ .port p) := by
  cases h : e.owner <;> simp [staysAfter, h]

theorem releaseClaim_eq_filter (p : Port) (c : Option Port) :
    releaseClaim p c = c.filter (fun q => !decide (q = p)) := by
  cases c with
  | none => rfl
  | some q => by_cases h : q = p <;> simp [releaseClaim, Option.filter, h]

namespace TxnsEnded

variable {s t u : State} {e f c d : Port → Bool}

theorem of_same (htxns : t.txns = s.txns) (hsb : t.sb = s.sb) (hclaims : t.claims = s.claims) :
    TxnsEnded s t (fun _ => false) (fun _ => false) where
  txns p := by rw [htxns]; rfl
  sb := by
    rw [hsb]
    refine (List.filter_eq_self.mpr fun e _ => ?_).symm
    cases h : e.owner <;> simp [staysAfter, h]
  claim w := by
    rw [State.claim, hclaims]
    change s.claim w = _
    cases s.claim w <;> rfl

theorem of_views {s' t' : State} (h : TxnsEnded s t e c) (hs : s'.txns = s.txns ∧ s'.sb = s.sb ∧ s'.claims = s.claims)
    (ht : t'.txns = t.txns ∧ t'.sb = t.sb ∧ t'.claims = t.claims) : TxnsEnded s' t' e c where
  txns p := by rw [hs.1, ht.1, h.txns]
  sb := by rw [hs.2.1, ht.2.1, h.sb]
  claim w := by
    rw [State.claim, State.claim, hs.2.2, ht.2.2]
    exact h.claim w

theorem trans (h : TxnsEnded s t e c) (h' : TxnsEnded t u f d) :
    TxnsEnded s u (fun p => e p || f p) (fun p => c p || d p) where
  txns p := by
    rw [h'.txns, h.txns]
    cases e p <;> cases f p <;> cases c p <;> cases d p <;> rfl
  sb := by
    rw [h'.sb, h.sb, List.filter_filter]
    refine List.filter_congr fun x _ => ?_
    cases hx : x.owner <;> simp [staysAfter, hx, Bool.and_comm]
  claim w := by
    rw [h'.claim, h.claim]
    cases s.claim w with
    | none => rfl
    | some p => cases he : e p <;> cases hf : f p <;> simp [Option.filter, he, hf]

theorem congr {e' c' : Port → Bool} (h : TxnsEnded s t e c) (he : ∀ p, e p = e' p)
    (hc : ∀ p, e p = false → c p = c' p) : TxnsEnded s t e' c' where
  txns p := by
    rw [h.txns, ← he]
    cases hp : e p with
    | true => rfl
    | false => rw [hc p hp]
  sb := by rw [h.sb, funext he]
  claim w := by rw [h.claim, funext he]

/-- The end of one transaction whose entries leave. -/
theorem of_endTxn (p : Port) {o : TxnOutcome} (ho : o ≠ .applyFault) (s : State) :
    TxnsEnded s (endTxn p o s) (fun q => decide (q = p)) (fun _ => false) where
  txns q := by
    rw [endTxn_txns, PerPort_get_set]
    split <;> simp_all
  sb := by
    rw [endTxn_sb, entriesAfter_of_ne ho]
    exact List.filter_congr fun e _ => (staysAfter_port p e).symm
  claim w := by
    rw [endTxn_claim]
    exact releaseClaim_eq_filter ..

/-- The entries of a port whose transaction stays are all there. -/
theorem entryCount {p : Port} (h : TxnsEnded s t e c) (hp : e p = false) :
    t.entryCount (.port p) = s.entryCount (.port p) := by
  rw [State.entryCount, State.entryCount, h.sb, List.countP_filter]
  refine List.countP_congr fun x _ => ?_
  simp only [Bool.and_eq_true, decide_eq_true_eq, and_iff_left_iff_imp]
  intro hx
  simp [staysAfter, hx, hp]

theorem number {p : Port} (h : TxnsEnded s t e c) (hp : e p = false) :
    (t.txns.get p).number = (s.txns.get p).number := by
  simp [h.txns, hp]

theorem state {p : Port} (h : TxnsEnded s t e c) (hp : e p = false) :
    (t.txns.get p).state = (s.txns.get p).state := by
  simp [h.txns, hp]

theorem state_eq_iff {p : Port} {x : TxnState} (h : TxnsEnded s t e c) (hx : x ≠ .none) :
    (t.txns.get p).state = x ↔ e p = false ∧ (s.txns.get p).state = x := by
  rw [h.txns]
  cases e p with
  | true => exact iff_of_false hx.symm fun hc => Bool.noConfusion hc.1
  | false => exact (and_iff_right rfl).symm

theorem outcomeNotice {p : Port} (h : TxnsEnded s t e c) (hp : e p = false) (hactive : t.active = s.active)
    (o : TxnOutcome) : t.outcomeNotice p o = s.outcomeNotice p o := by
  simp only [State.outcomeNotice, h.entryCount hp, h.number hp, told_congr hactive]

end TxnsEnded

/-! ### A session that the fence ends -/

section SessionFenced

/-- What the laws give of a port before the fence ends its session. -/
structure Fenceable (s : State) (p : Port) : Prop where
  recognizer : (s.sqr.get p).state = .session ↔ (s.sessions.get p).isSome = true
  staged : stages (s.txns.get p).state = true → (s.sessions.get p).isSome = true
  leases : ∀ w : Fin 16, s.leasedTo w p = true → (s.sessions.get p).isSome = true
  unqueued : stages (s.txns.get p).state = true → p ∉ s.commitQueue

/-- What the fence does to a port in session or out of it. -/
structure SessionFenced (s t : State) (p : Port) : Prop where
  frame : t = { s with
    sessions := s.sessions.set p none, sqr := t.sqr, leases := t.leases, txns := t.txns, sb := t.sb,
    claims := t.claims, raised := t.raised }
  sqr : t.sqr = s.sqr.set p (if (s.sqr.get p).state = .session then Sqr.fresh else s.sqr.get p)
  lease : ∀ w : Fin 16, t.lease w = if s.leasedTo w p = true then afterLease (s.window w) else s.lease w
  txns : TxnsEnded s t (fun q => decide (q = p) && stages (s.txns.get q).state)
    (fun q => decide (q = p) && (s.sessions.get q).isSome)
  raised : t.raised = s.raised ++ if (s.sessions.get p).isSome then s.sessionEndNotices p .fence else []

variable {s : State} {p : Port}

/-- The end of a session, seen from its transactions: one that stages ends, the link of any other is cut. -/
theorem txnsEnded_of_released {t : State} {y : Session} (hopen : s.sessions.get p = some y)
    (hstaged : stages (s.txns.get p).state = true →
      t.txns = s.txns.set p Txn.empty ∧ t.sb = s.sb.filter (fun e => decide (e.owner ≠ .port p)) ∧
      (∀ w : Fin 16, t.claim w = if s.claim w = some p then none else s.claim w) ∧
      t.commitQueue = s.commitQueue.filter (fun q => decide (q ≠ p)))
    (hcut : stages (s.txns.get p).state = false →
      t.txns = s.txns.set p { s.txns.get p with linked := false } ∧ t.sb = s.sb ∧ t.claims = s.claims ∧
      t.commitQueue = s.commitQueue) :
    TxnsEnded s t (fun q => decide (q = p) && stages (s.txns.get q).state)
      (fun q => decide (q = p) && (s.sessions.get q).isSome) := by
  cases hstages : stages (s.txns.get p).state with
  | true =>
    obtain ⟨htxns, hsb, hclaim, -⟩ := hstaged hstages
    have hone : (fun q => decide (q = p) && stages (s.txns.get q).state) = fun q => decide (q = p) := by
      funext q
      by_cases hq : q = p <;> simp [hq, hstages]
    rw [hone]
    refine ⟨fun q => ?_, ?_, fun w => (hclaim w).trans (releaseClaim_eq_filter p _)⟩
    · rw [htxns, PerPort_get_set]
      by_cases hq : q = p <;> simp [hq]
    · rw [hsb]
      exact List.filter_congr fun e _ => (staysAfter_port p e).symm
  | false =>
    obtain ⟨htxns, hsb, hclaims, -⟩ := hcut hstages
    have hnone : (fun q => decide (q = p) && stages (s.txns.get q).state) = fun _ => false := by
      funext q
      by_cases hq : q = p <;> simp [hq, hstages]
    have hsame := TxnsEnded.of_same (s := s) (t := { s with sb := t.sb, claims := t.claims }) rfl hsb hclaims
    rw [hnone]
    refine ⟨fun q => ?_, hsame.sb, hsame.claim⟩
    rw [htxns, PerPort_get_set]
    by_cases hq : q = p <;> simp [hq, hopen]

theorem endSession_fenced (h : Fenceable s p) : SessionFenced s (endSession p .fence s) p := by
  cases hopen : s.sessions.get p with
  | none =>
    have hunsqr : (s.sqr.get p).state ≠ .session := fun hc => by simpa [hopen] using h.recognizer.mp hc
    have hunstaged : stages (s.txns.get p).state = false :=
      Bool.eq_false_iff.mpr fun hc => by simpa [hopen] using h.staged hc
    have hunleased (w : Fin 16) : s.leasedTo w p = false :=
      Bool.eq_false_iff.mpr fun hc => by simpa [hopen] using h.leases w hc
    have hsessions : s.sessions.set p none = s.sessions := hopen ▸ PerPort_set_get ..
    rw [endSession_of_none hopen]
    refine ⟨by rw [hsessions], ?_, fun w => ?_, (TxnsEnded.of_same rfl rfl rfl).congr (fun q => ?_) (fun q _ => ?_), ?_⟩
    · rw [if_neg hunsqr, PerPort_set_get]
    · rw [if_neg (by simp [hunleased])]
    · by_cases hq : q = p <;> simp [hq, hunstaged]
    · by_cases hq : q = p <;> simp [hq, hopen]
    · simp [hopen]
  | some y =>
    have hsqr : (s.sqr.get p).state = .session := h.recognizer.mpr (by rw [hopen]; rfl)
    rw [endSession_of_some hopen]
    obtain ⟨hframe, hended, hkept, hstaged, hcut, hraised⟩ := closeSession_ended p .fence s
    have hports : (closeSession p .fence s).ports = s.ports := closeSession_ports
    generalize closeSession p .fence s = t at *
    have hsessions : t.sessions = s.sessions.set p none := (congrArg State.sessions hframe :)
    have hsqrs : t.sqr = s.sqr.set p Sqr.fresh := (congrArg State.sqr hframe :)
    have hqueue : t.commitQueue = s.commitQueue := by
      cases hstages : stages (s.txns.get p).state with
      | false => exact (hcut hstages).2.2.2
      | true =>
        obtain ⟨-, -, -, hfilter⟩ := hstaged hstages
        rw [hfilter, List.filter_eq_self]
        exact fun q hq => decide_eq_true fun hc => h.unqueued hstages (hc ▸ hq)
    refine ⟨?_, by rw [hsqrs, if_pos hsqr], fun w => ?_, ?_, by rw [hraised]; simp [hopen]⟩
    · rw [hports, hqueue, ← hsqrs] at hframe
      exact hframe
    · cases hw : s.leasedTo w p with
      | true => rw [hended w hw, if_pos rfl]
      | false => rw [hkept w hw, if_neg Bool.false_ne_true]
    · exact txnsEnded_of_released hopen hstaged hcut

theorem leasedTo_other {w : Fin 16} {q : Port} (h : s.leasedTo w p = true) (hq : q ≠ p) : s.leasedTo w q = false := by
  obtain ⟨r, hr, hholder⟩ := leasedTo_iff.mp h
  rw [State.leasedTo, hr]
  exact decide_eq_false fun hc => hq ((Option.some.inj hc).symm.trans hholder)

/-- A window's lease goes to CLOSED or HOLDOFF, so the other port's leases stay the ones they were. -/
theorem SessionFenced.leasedTo {t : State} {q : Port} (h : SessionFenced s t p) (hq : q ≠ p) (w : Fin 16) :
    t.leasedTo w q = s.leasedTo w q := by
  rw [State.leasedTo, h.lease w]
  cases hw : s.leasedTo w p with
  | false => rw [if_neg Bool.false_ne_true, State.leasedTo]
  | true =>
    rw [if_pos rfl, leasedTo_other hw hq]
    unfold afterLease
    split <;> rfl

theorem SessionFenced.leaseEndOf {t : State} {q : Port} (h : SessionFenced s t p) (hq : q ≠ p) (c : LeaseCause)
    (w : Fin 16) : t.leaseEndOf q c w = s.leaseEndOf q c w := by
  have hactive : t.active = s.active := (congrArg State.active h.frame :)
  cases hw : s.leasedTo w q with
  | false => rw [State.leaseEndOf, State.leaseEndOf, h.leasedTo hq, hw]; rfl
  | true =>
    refine leaseEndOf_congr hactive ?_ q c
    rw [h.lease w, if_neg]
    simp [leasedTo_other hw hq.symm]

/-- The end of one port's session leaves the other port as it was. -/
theorem SessionFenced.other {t : State} {q : Port} (h : SessionFenced s t p) (hq : q ≠ p) (hf : Fenceable s q) :
    Fenceable t q := by
  have hsqr : t.sqr.get q = s.sqr.get q := by rw [h.sqr, PerPort_get_set, if_neg hq]
  have hsessions : t.sessions.get q = s.sessions.get q := by
    have hset : t.sessions = s.sessions.set p none := (congrArg State.sessions h.frame :)
    rw [hset, PerPort_get_set, if_neg hq]
  have hqueue : t.commitQueue = s.commitQueue := (congrArg State.commitQueue h.frame :)
  have hstate : (t.txns.get q).state = (s.txns.get q).state := h.txns.state (by simp [hq])
  refine ⟨?_, ?_, fun w => ?_, ?_⟩
  · rw [hsqr, hsessions]; exact hf.recognizer
  · rw [hstate, hsessions]; exact hf.staged
  · rw [h.leasedTo hq, hsessions]; exact hf.leases w
  · rw [hstate, hqueue]; exact hf.unqueued

theorem SessionFenced.sessionEndNotices {t : State} {q : Port} (h : SessionFenced s t p) (hq : q ≠ p)
    (c : SessionCause) : t.sessionEndNotices q c = s.sessionEndNotices q c := by
  have hactive : t.active = s.active := (congrArg State.active h.frame :)
  have hends : (fun q' => decide (q' = p) && stages (s.txns.get q').state) q = false := by simp [hq]
  rw [State.sessionEndNotices, State.sessionEndNotices, ← flatMap_leaseEndOf, ← flatMap_leaseEndOf,
    h.txns.state hends, h.txns.outcomeNotice hends hactive, told_congr hactive,
    funext (h.leaseEndOf hq (leaseCauseOf c))]

end SessionFenced

/-! ### A stop of the engine -/

section Stops

variable (c : StopCause) (s : State)

/-- A stop in LOGGING ends the transaction at once: the engine makes no restoring write, has no access in flight and
has not written LOGGED (06 R124). -/
def State.stopsAtOnce : Bool :=
  !s.engine.restoring && !s.engineInFlight &&
    !s.engine.word.any (fun w => decide (w.role = .logged ∧ w.granted = true))

/-- The stop recorded and the request not yet granted withdrawn (06 R124). -/
def State.withdrawn : State := (recordStop c s).setEngineRequest none

variable {c s}

theorem stopEngine_of_restoring (h : s.engine.restoring = true) : stopEngine c s = recordStop c s := if_pos h

theorem stopEngine_of_inFlight (hrestoring : s.engine.restoring = false) (h : s.engineInFlight = true) :
    stopEngine c s = s.withdrawn c :=
  (if_neg (by simp [hrestoring])).trans (if_pos h)

theorem stopEngine_of_landed (hrestoring : s.engine.restoring = false) (h : s.engineInFlight = false) :
    stopEngine c s = settleStop (s.withdrawn c) :=
  (if_neg (by simp [hrestoring])).trans (if_neg fun hc => Bool.false_ne_true (h.symm.trans hc))

theorem settleStop_of_granted
    (h : s.engine.word.any (fun w => decide (w.role = .logged ∧ w.granted = true)) = true) :
    settleStop s = beginRestoring s := by
  unfold settleStop
  cases hw : s.engine.word with
  | none =>
    rw [hw] at h
    cases h
  | some w =>
    rw [hw] at h
    exact if_pos (of_decide_eq_true h)

theorem settleStop_of_ungranted
    (h : s.engine.word.any (fun w => decide (w.role = .logged ∧ w.granted = true)) = false) :
    settleStop s = endLogging s := by
  unfold settleStop
  cases hw : s.engine.word with
  | none => rfl
  | some w =>
    rw [hw] at h
    exact if_neg (of_decide_eq_false h)

theorem endCurrent_engine (o : TxnOutcome) : (endCurrent o s).engine = s.engine := by
  rw [endCurrent_frame]

theorem endCurrent_waiting (o : TxnOutcome) : (endCurrent o s).waiting = s.waiting := by
  rw [endCurrent_frame]

theorem stopEngine_of_granted (hrestoring : s.engine.restoring = false) (hflight : s.engineInFlight = false)
    (h : s.engine.word.any (fun w => decide (w.role = .logged ∧ w.granted = true)) = true) :
    stopEngine c s = beginRestoring (s.withdrawn c) :=
  (stopEngine_of_landed hrestoring hflight).trans (settleStop_of_granted (s := s.withdrawn c) h)

theorem stopsAtOnce_iff : s.stopsAtOnce = true ↔ s.engine.restoring = false ∧ s.engineInFlight = false ∧
    s.engine.word.any (fun w => decide (w.role = .logged ∧ w.granted = true)) = false := by
  simp only [State.stopsAtOnce, Bool.and_eq_true, Bool.not_eq_true', and_assoc]

theorem stopEngine_of_atOnce (h : s.stopsAtOnce = true) : stopEngine c s = endLogging (s.withdrawn c) := by
  obtain ⟨hrestoring, hflight, hword⟩ := stopsAtOnce_iff.mp h
  exact (stopEngine_of_landed hrestoring hflight).trans (settleStop_of_ungranted (s := s.withdrawn c) hword)

/-- The courses of a stop that does not end the transaction at once. -/
theorem stopEngine_cases (h : s.stopsAtOnce = false) : stopEngine c s = recordStop c s ∨
    stopEngine c s = s.withdrawn c ∨ stopEngine c s = beginRestoring (s.withdrawn c) := by
  cases hrestoring : s.engine.restoring with
  | true => exact .inl (stopEngine_of_restoring hrestoring)
  | false =>
    cases hflight : s.engineInFlight with
    | true => exact .inr (.inl (stopEngine_of_inFlight hrestoring hflight))
    | false =>
      refine .inr (.inr (stopEngine_of_granted hrestoring hflight ?_))
      simpa [State.stopsAtOnce, hrestoring, hflight] using h

theorem beginRestoring_frame (u : State) :
    beginRestoring u = { u with engine := (beginRestoring u).engine, waiting := (beginRestoring u).waiting } := by
  rw [beginRestoring, placeWord_frame]
  rfl

theorem withdrawn_frame (c : StopCause) (u : State) :
    u.withdrawn c = { u with engine := (u.withdrawn c).engine, waiting := (u.withdrawn c).waiting } := rfl

theorem stopEngine_of_later (h : s.stopsAtOnce = false) :
    ∃ e q, stopEngine c s = { s with engine := e, waiting := q } := by
  obtain hstop | hstop | hstop := stopEngine_cases (c := c) h
  · exact ⟨(recordStop c s).engine, s.waiting, hstop⟩
  · exact ⟨(s.withdrawn c).engine, (s.withdrawn c).waiting, hstop⟩
  · refine ⟨(beginRestoring (s.withdrawn c)).engine, (beginRestoring (s.withdrawn c)).waiting, hstop.trans ?_⟩
    rw [beginRestoring_frame]
    rfl

theorem beginRestoring_engine (u : State) : (beginRestoring u).engine = { u.engine with
    restoring := true,
    word := some {
      role := .restore, addr := u.journalAddr 0, value := Config.clearWord, attempt := 1, granted := false } } := rfl

theorem beginRestoring_waiting (u : State) : (beginRestoring u).waiting = { u.waiting with
    engine := some { kind := .write Config.clearWord, addr := u.journalAddr 0 } } := rfl

theorem endLogging_engine : (endLogging s).engine = s.engine.atRest .idle := by
  rw [endLogging, endEngine, setEngineRequest_engine, setEngine_engine, endCurrent_engine]
  rfl

theorem endLogging_waiting : (endLogging s).waiting = { s.waiting with engine := none } := by
  rw [endLogging, endEngine, State.setEngineRequest, setEngine_waiting, endCurrent_waiting]

/-- What a stop leaves of the engine and its request depends on those, the access in flight and the profile alone. -/
theorem stopEngine_congr {t : State} (hengine : t.engine = s.engine) (hwaiting : t.waiting = s.waiting)
    (hflight : t.inFlight = s.inFlight) (hactive : t.active = s.active) (c : StopCause) :
    (stopEngine c t).engine = (stopEngine c s).engine ∧ (stopEngine c t).waiting = (stopEngine c s).waiting := by
  have hrecorded : (recordStop c t).engine = (recordStop c s).engine := by
    simp only [recordStop, setEngine_engine, hengine]
  have hwithdrawn : (t.withdrawn c).waiting = (s.withdrawn c).waiting :=
    congrArg (fun q : Waiting => { q with engine := none }) hwaiting
  have hinFlight : t.engineInFlight = s.engineInFlight := by
    rw [State.engineInFlight, State.engineInFlight, hflight]
  cases hrestoring : s.engine.restoring with
  | true =>
    rw [stopEngine_of_restoring hrestoring, stopEngine_of_restoring (hengine ▸ hrestoring)]
    exact ⟨hrecorded, hwaiting⟩
  | false =>
    have hrestoring' : t.engine.restoring = false := by rw [hengine, hrestoring]
    cases hin : s.engineInFlight with
    | true =>
      rw [stopEngine_of_inFlight hrestoring hin, stopEngine_of_inFlight hrestoring' (hinFlight.trans hin)]
      exact ⟨hrecorded, hwithdrawn⟩
    | false =>
      cases hword : s.engine.word.any (fun w => decide (w.role = .logged ∧ w.granted = true)) with
      | true =>
        rw [stopEngine_of_granted hrestoring hin hword,
          stopEngine_of_granted hrestoring' (hinFlight.trans hin) (hengine ▸ hword)]
        have haddr : (t.withdrawn c).journalAddr 0 = (s.withdrawn c).journalAddr 0 :=
          congrArg (fun f : Profile => f.journalBase + BitVec.ofNat 20 0) hactive
        have hwithdrawnEngine : (t.withdrawn c).engine = (s.withdrawn c).engine := hrecorded
        rw [beginRestoring_engine, beginRestoring_engine, beginRestoring_waiting, beginRestoring_waiting, haddr,
          hwithdrawn, hwithdrawnEngine]
        exact ⟨rfl, rfl⟩
      | false =>
        have hnow : s.stopsAtOnce = true := stopsAtOnce_iff.mpr ⟨hrestoring, hin, hword⟩
        have hnow' : t.stopsAtOnce = true :=
          stopsAtOnce_iff.mpr ⟨hrestoring', hinFlight.trans hin, by rw [hengine, hword]⟩
        rw [stopEngine_of_atOnce hnow, stopEngine_of_atOnce hnow', endLogging_engine, endLogging_engine,
          endLogging_waiting, endLogging_waiting, hwithdrawn]
        exact ⟨congrArg (Engine.atRest · .idle) hrecorded, rfl⟩

end Stops

/-! ### The whole entry (08 R158) -/

section Entry

variable {s t : State}

theorem fenceEnds_of_logging {p : Port} (h : (s.txns.get p).state = .logging) : s.fenceEnds p = s.stopsAtOnce := by
  simp only [State.fenceEnds, h]
  rfl

theorem fenceEnds_of_not_logging {p : Port} (h : (s.txns.get p).state ≠ .logging) :
    s.fenceEnds p = (stages (s.txns.get p).state || decide ((s.txns.get p).state = .queued)) := by
  unfold State.fenceEnds
  cases hstate : (s.txns.get p).state
  case logging => exact absurd hstate h
  all_goals rfl

/-- The recognizers as the fence leaves them (02 R41 (a)). -/
def fencedSqr (q : Sqr) : Sqr := if q.state = .watching then clearedSqr q else q

/-- A recognizer whose session the fence has ended starts afresh, and stays as it is. -/
theorem fencedSqr_ended (q : Sqr) : fencedSqr (if q.state = .session then Sqr.fresh else q) =
    match q.state with
    | .watching => { q with progress := #v[0, 0, 0, 0], stepTimer := .stopped }
    | .lockedOut => q
    | .session => Sqr.fresh := by
  obtain ⟨state, progress, stepTimer, breaks, lockoutTimer⟩ := q
  cases state <;> rfl

theorem fencedLease_eq (w : Fin 16) :
    (if s.leasedTo w .a = true ∨ s.leasedTo w .b = true then afterLease (s.window w) else s.lease w) =
      match s.lease w with
      | .leased _ => afterLease (s.window w)
      | .closed => .closed
      | .holdoff ms => .holdoff ms := by
  have hleased (p : Port) : s.leasedTo w p = decide (leaseHolder (s.lease w) = some p) := rfl
  rw [hleased, hleased]
  cases s.lease w with
  | leased r => exact if_pos (by cases h : r.holder <;> simp [leaseHolder, h])
  | closed => rfl
  | holdoff ms => rfl

theorem fenceSqr_eq (p : Port) (s : State) : fenceSqr p s = s.setSqr p (fencedSqr (s.sqr.get p)) := by
  unfold fenceSqr fencedSqr
  split
  · rfl
  · rw [State.setSqr, PerPort_set_get]

theorem endQueued_of_nil {o : TxnOutcome} (h : s.commitQueue = []) : endQueued o s = s := by
  rw [endQueued, h, List.foldl_nil]

theorem endQueued_of_one {o : TxnOutcome} {q : Port} (h : s.commitQueue = [q]) : endQueued o s = endTxn q o s := by
  rw [endQueued, h, List.foldl_cons, List.foldl_nil]

/-- The outcome events of the transactions that are QUEUED. -/
def State.queueNotice (s : State) (p : Port) : List Notice :=
  if (s.txns.get p).state = .queued then s.outcomeNotice p .fenced else []

/-- The queue of the laws: what it holds is QUEUED, and it holds one at most. -/
theorem endQueued_ended (hqueue : ∀ p, p ∈ s.commitQueue ↔ (s.txns.get p).state = .queued)
    (hone : s.commitQueue.length ≤ 1) (hsessions : ∀ p, s.sessions.get p = none) :
    endQueued .fenced s = { s with
      txns := (endQueued .fenced s).txns, sb := (endQueued .fenced s).sb, claims := (endQueued .fenced s).claims,
      raised := (endQueued .fenced s).raised, commitQueue := [] } ∧
    TxnsEnded s (endQueued .fenced s) (fun p => decide ((s.txns.get p).state = .queued)) (fun _ => false) ∧
    (endQueued .fenced s).raised = s.raised ++ (s.queueNotice .a ++ s.queueNotice .b) := by
  have hnone (h : s.commitQueue = []) (p : Port) : (s.txns.get p).state ≠ .queued :=
    mt (hqueue p).mpr (by rw [h]; nofun)
  cases hq : s.commitQueue with
  | nil =>
    rw [endQueued_of_nil hq]
    refine ⟨by rw [← hq], (TxnsEnded.of_same rfl rfl rfl).congr (fun p => ?_) fun _ _ => rfl, ?_⟩
    · exact (decide_eq_false (hnone hq p)).symm
    · rw [State.queueNotice, State.queueNotice, if_neg (hnone hq .a), if_neg (hnone hq .b)]
      exact (List.append_nil _).symm
  | cons q rest =>
    have hrest : rest = [] := by
      rw [hq, List.length_cons] at hone
      exact List.eq_nil_of_length_eq_zero (by omega)
    subst hrest
    have hqueued (p : Port) : (s.txns.get p).state = .queued ↔ p = q := by
      rw [← hqueue, hq, List.mem_singleton]
    rw [endQueued_of_one hq]
    refine ⟨?_, (TxnsEnded.of_endTxn q (o := .fenced) TxnOutcome.noConfusion s).congr (fun p => ?_) fun _ _ => rfl, ?_⟩
    · conv => lhs; rw [endTxn_frame]
      rw [endTxn_sessions_of_unawaited _ _ _ (.inr (.inr (.inl (hsessions q)))), endTxn_commitQueue, hq]
      simp
    · exact decide_eq_decide.mpr (hqueued p).symm
    · rw [endTxn_told]
      cases q <;> simp [State.queueNotice, hqueued]

/-- The engine's part of the laws: a transaction in LOGGING is the current one of an engine in LOGGING. -/
structure EngineAgrees (s : State) : Prop where
  inEngine : ∀ p, inEngine (s.txns.get p).state = true ↔ s.engine.current = some (.port p)
  state : ∀ p, s.engine.current = some (.port p) → (s.txns.get p).state = txnStateOf s.engine.state

theorem EngineAgrees.logging {p : Port} (h : EngineAgrees s) (hp : (s.txns.get p).state = .logging) :
    s.engine.current = some (.port p) ∧ s.engine.state = .logging := by
  have hcurrent := (h.inEngine p).mp (by rw [hp]; rfl)
  have hstate := hp.symm.trans (h.state p hcurrent)
  refine ⟨hcurrent, ?_⟩
  cases he : s.engine.state
  case logging => rfl
  all_goals rw [he] at hstate; cases hstate

theorem loggingOutcome_some (c : StopCause) : loggingOutcome (some c) = stopOutcome c := by
  cases c <;> rfl

/-- TXN_OUTCOME of the transaction in LOGGING when the fence ends it at once (08 R163). -/
def State.stopNotice (s : State) (p : Port) : List Notice :=
  if (s.txns.get p).state = .logging ∧ s.stopsAtOnce = true then
    s.outcomeNotice p (stopOutcome (s.engine.stop.getD .fence))
  else []

/-- What the fence does to the engine's transaction. -/
structure EngineFenced (s t : State) : Prop where
  frame : t = { s with
    txns := t.txns, sb := t.sb, claims := t.claims, raised := t.raised, engine := t.engine, waiting := t.waiting }
  txns : TxnsEnded s t (fun p => decide ((s.txns.get p).state = .logging) && s.stopsAtOnce) (fun _ => false)
  raised : t.raised = s.raised ++ (s.stopNotice .a ++ s.stopNotice .b)

theorem EngineFenced.of_kept {e : Engine} {q : Waiting} (ht : t = { s with engine := e, waiting := q })
    (h : ∀ p, (s.txns.get p).state = .logging → s.stopsAtOnce = false) : EngineFenced s t := by
  have hnone (p : Port) : s.stopNotice p = [] :=
    if_neg fun hc => Bool.false_ne_true ((h p hc.1).symm.trans hc.2)
  refine ⟨by rw [ht], (TxnsEnded.of_same (by rw [ht]) (by rw [ht]) (by rw [ht])).congr (fun p => ?_) fun _ _ => rfl, ?_⟩
  · by_cases hp : (s.txns.get p).state = .logging <;> simp [hp, h p]
  · rw [hnone, hnone, ht]
    exact (List.append_nil _).symm

theorem endCurrent_of_none {o : TxnOutcome} (h : s.engine.current = none) : endCurrent o s = s := by
  rw [endCurrent, h]

theorem endCurrent_of_recovery {o : TxnOutcome} (h : s.engine.current = some .recovery) : endCurrent o s = s := by
  rw [endCurrent, h]

theorem endLogging_of_port {p : Port} {c : StopCause} (h : s.engine.current = some (.port p))
    (hstop : s.engine.stop = some c) : endLogging s = endEngine .idle (endTxn p (stopOutcome c) s) := by
  rw [endLogging, endCurrent_of_port h, hstop, loggingOutcome_some]

theorem endTxn_engineFenced {p : Port} (hlogging : (s.txns.get p).state = .logging)
    (honly : ∀ q, (s.txns.get q).state = .logging → q = p) (hnow : s.stopsAtOnce = true)
    (hsessions : s.sessions.get p = none) (hqueue : s.commitQueue = []) :
    EngineFenced s
      (endEngine .idle (endTxn p (stopOutcome (s.engine.stop.getD .fence)) (s.withdrawn .fence))) := by
  have hended := TxnsEnded.of_endTxn p (o := stopOutcome (s.engine.stop.getD .fence))
    (by cases s.engine.stop.getD .fence <;> nofun) (s.withdrawn .fence)
  generalize ho : stopOutcome (s.engine.stop.getD .fence) = o at *
  have hraised := endTxn_told p o (s.withdrawn .fence)
  have hsame : (endTxn p o (s.withdrawn .fence)).sessions = s.sessions :=
    endTxn_sessions_of_unawaited _ _ _ (.inr (.inr (.inl hsessions)))
  have hleft : (endTxn p o (s.withdrawn .fence)).commitQueue = s.commitQueue := by
    rw [endTxn_commitQueue]
    change s.commitQueue.filter _ = _
    rw [hqueue]
    rfl
  have hframe := endTxn_frame p o (s.withdrawn .fence)
  rw [hsame, hleft] at hframe
  generalize endTxn p o (s.withdrawn .fence) = v at *
  have hviews : TxnsEnded s (endEngine .idle v) (fun q => decide (q = p)) (fun _ => false) :=
    hended.of_views ⟨rfl, rfl, rfl⟩ ⟨rfl, rfl, rfl⟩
  refine ⟨?_, hviews.congr (fun q => ?_) fun _ _ => rfl, ?_⟩
  · rw [endEngine_frame]
    exact congrArg (fun u : State => { u with
      engine := (endEngine .idle v).engine, waiting := (endEngine .idle v).waiting }) hframe
  · rw [hnow, Bool.and_true]
    exact decide_eq_decide.mpr ⟨fun hq => hq ▸ hlogging, honly q⟩
  · have hnotice (q : Port) : s.stopNotice q =
        if q = p then s.outcomeNotice p o else [] := by
      by_cases hq : q = p
      · rw [State.stopNotice, if_pos hq, hq, if_pos ⟨hlogging, hnow⟩, ho]
      · rw [State.stopNotice, if_neg hq, if_neg fun hc => hq (honly q hc.1)]
    rw [hnotice, hnotice]
    have hended : (endEngine .idle v).raised = s.raised ++ s.outcomeNotice p o := hraised
    rw [hended]
    cases p <;> simp

theorem endEngine_withdrawn (c : StopCause) :
    ∃ e q, endEngine .idle (s.withdrawn c) = { s with engine := e, waiting := q } :=
  ⟨(endEngine .idle (s.withdrawn c)).engine, (endEngine .idle (s.withdrawn c)).waiting, endEngine_frame ..⟩

theorem fenceEngine_fenced (h : EngineAgrees s) (hsessions : ∀ p, s.sessions.get p = none)
    (hqueue : s.commitQueue = []) :
    EngineFenced s (fenceEngine s) := by
  by_cases hstate : s.engine.state = .logging
  · rw [fenceEngine, if_pos hstate]
    cases hnow : s.stopsAtOnce with
    | false =>
      obtain ⟨e, q, hlater⟩ := stopEngine_of_later (c := .fence) hnow
      exact .of_kept hlater fun _ _ => hnow
    | true =>
      rw [stopEngine_of_atOnce hnow]
      cases hcurrent : s.engine.current with
      | none =>
        rw [endLogging, endCurrent_of_none (s := s.withdrawn .fence) hcurrent]
        obtain ⟨e, q, hkept⟩ := endEngine_withdrawn (s := s) .fence
        exact .of_kept hkept fun p hp => by cases hcurrent.symm.trans (h.logging hp).1
      | some o =>
        cases o with
        | recovery =>
          rw [endLogging, endCurrent_of_recovery (s := s.withdrawn .fence) hcurrent]
          obtain ⟨e, q, hkept⟩ := endEngine_withdrawn (s := s) .fence
          exact .of_kept hkept fun p hp => by cases hcurrent.symm.trans (h.logging hp).1
        | port p =>
          have hlogging : (s.txns.get p).state = .logging := by rw [h.state p hcurrent, hstate]; rfl
          rw [endLogging_of_port (s := s.withdrawn .fence) (c := s.engine.stop.getD .fence) hcurrent rfl]
          refine endTxn_engineFenced hlogging (fun q hq => ?_) hnow (hsessions p) hqueue
          exact (Owner.port.inj (Option.some.inj ((h.logging hq).1.symm.trans hcurrent)))
  · rw [fenceEngine, if_neg hstate]
    exact .of_kept rfl fun p hp => absurd (h.logging hp).2 hstate

theorem fenceable_of_laws (hsession : SessionLaw s) (hlease : LeaseLaw s) (hcommit : CommitLaw s) (p : Port) :
    Fenceable s p := by
  obtain ⟨hrecognizer, -, hstaged⟩ := (onBoth_iff.mp hsession) p
  obtain ⟨-, -, hqueue, -⟩ := hcommit
  refine ⟨hrecognizer, hstaged, fun w hw => ?_, fun hstages hp => ?_⟩
  · obtain ⟨r, hr, rfl⟩ := leasedTo_iff.mp hw
    obtain ⟨-, -, -, -, hkey, -⟩ := hlease w r hr
    rw [← Option.isSome_map, hkey]
    rfl
  · rw [((onBoth_iff.mp hqueue) p).mp hp] at hstages
    cases hstages

theorem engineAgrees_of_laws (h : CommitLaw s) : EngineAgrees s := by
  obtain ⟨hinEngine, hstate, -⟩ := h
  exact ⟨onBoth_iff.mp hinEngine, onBoth_iff.mp hstate⟩

end Entry

/-! ### The two sessions -/

section Sessions

variable {s a b : State}

/-- What the fence does to the sessions of A and B, together. -/
structure SessionsFenced (s b : State) : Prop where
  frame : b = { s with
    sessions := { a := none, b := none }, sqr := b.sqr, leases := b.leases, txns := b.txns, sb := b.sb,
    claims := b.claims, raised := b.raised }
  sqr : ∀ p, b.sqr.get p = if (s.sqr.get p).state = .session then Sqr.fresh else s.sqr.get p
  lease : ∀ w : Fin 16, b.lease w = if s.leasedTo w .a = true ∨ s.leasedTo w .b = true then afterLease (s.window w)
    else s.lease w
  txns : TxnsEnded s b (fun p => stages (s.txns.get p).state) (fun p => (s.sessions.get p).isSome)
  raised : b.raised = s.raised ++ ((if (s.sessions.get .a).isSome then s.sessionEndNotices .a .fence else []) ++
    if (s.sessions.get .b).isSome then s.sessionEndNotices .b .fence else [])

theorem SessionFenced.both (ha : SessionFenced s a .a) (hb : SessionFenced a b .b) : SessionsFenced s b := by
  have hne : Port.b ≠ .a := nofun
  have hsessions : a.sessions = s.sessions.set .a none := (congrArg State.sessions ha.frame :)
  have hopen : a.sessions.get .b = s.sessions.get .b := by rw [hsessions]; rfl
  have hstate : (a.txns.get .b).state = (s.txns.get .b).state := ha.txns.state rfl
  refine ⟨?_, fun p => ?_, fun w => ?_, (ha.txns.trans hb.txns).congr (fun p => ?_) (fun p _ => ?_), ?_⟩
  · refine hb.frame.trans ?_
    rw [ha.frame]
    rfl
  · rw [hb.sqr, ha.sqr]
    cases p <;> rfl
  · have hwindow : a.window w = s.window w := (congrArg (State.window · w) ha.frame :)
    rw [hb.lease w, ha.leasedTo hne, hwindow, ha.lease w]
    cases s.leasedTo w .a <;> cases s.leasedTo w .b <;> rfl
  · cases p
    · simp
    · simp [hstate]
  · cases p
    · simp
    · simp [hopen]
  · rw [hb.raised, ha.raised, hopen, ha.sessionEndNotices hne, List.append_assoc]

end Sessions

/-! ### The transactions that the fence ends -/

section Transactions

variable {s v q t : State}

/-- Those that stage end with their sessions. -/
def State.cuts (s : State) (p : Port) : Bool := (s.sessions.get p).isSome

theorem TxnsEnded.queued (hsv : TxnsEnded s v (fun p => stages (s.txns.get p).state) s.cuts)
    (hvq : TxnsEnded v q (fun p => decide ((v.txns.get p).state = .queued)) (fun _ => false)) :
    TxnsEnded s q (fun p => stages (s.txns.get p).state || decide ((s.txns.get p).state = .queued)) s.cuts := by
  refine (hsv.trans hvq).congr (fun p => ?_) fun p _ => Bool.or_false _
  have hqueued := hsv.state_eq_iff (p := p) (x := .queued) TxnState.noConfusion
  cases hstages : stages (s.txns.get p).state with
  | true => rfl
  | false => exact congrArg (false || ·) (decide_eq_decide.mpr (hqueued.trans (and_iff_right hstages)))

theorem TxnsEnded.logging
    (hsq : TxnsEnded s q (fun p => stages (s.txns.get p).state || decide ((s.txns.get p).state = .queued)) s.cuts)
    (hstops : q.stopsAtOnce = s.stopsAtOnce)
    (hqt : TxnsEnded q t (fun p => decide ((q.txns.get p).state = .logging) && q.stopsAtOnce) (fun _ => false)) :
    TxnsEnded s t s.fenceEnds s.cuts := by
  refine (hsq.trans hqt).congr (fun p => ?_) fun p _ => Bool.or_false _
  have hlogging := hsq.state_eq_iff (p := p) (x := .logging) TxnState.noConfusion
  by_cases h : (s.txns.get p).state = .logging
  · have hq : (q.txns.get p).state = .logging := hlogging.mpr ⟨by rw [h]; rfl, h⟩
    rw [fenceEnds_of_logging h, hq, h, hstops]
    rfl
  · have hq : (q.txns.get p).state ≠ .logging := fun hc => h (hlogging.mp hc).2
    rw [fenceEnds_of_not_logging h, decide_eq_false hq]
    exact Bool.or_false _

/-- The transactions that the engine has are none of those that end before it is told to stop. -/
theorem TxnsEnded.agrees
    (hsq : TxnsEnded s q (fun p => stages (s.txns.get p).state || decide ((s.txns.get p).state = .queued)) s.cuts)
    (hengine : q.engine = s.engine) (h : EngineAgrees s) : EngineAgrees q := by
  have hkept (p : Port) (hp : inEngine (s.txns.get p).state = true) :
      (q.txns.get p).state = (s.txns.get p).state := by
    refine hsq.state ?_
    revert hp
    cases (s.txns.get p).state <;> decide
  refine ⟨fun p => ⟨fun hp => ?_, fun hp => ?_⟩, fun p hp => ?_⟩
  · rw [hengine]
    refine (h.inEngine p).mp ?_
    have htxn := hsq.txns p
    split at htxn
    · rw [htxn] at hp
      cases hp
    · rw [htxn] at hp
      exact hp
  · have hin := (h.inEngine p).mpr (hengine ▸ hp)
    rw [hkept p hin, hin]
  · have hcurrent : s.engine.current = some (.port p) := hengine ▸ hp
    rw [hkept p ((h.inEngine p).mpr hcurrent), hengine]
    exact h.state p hcurrent

end Transactions

/-! ### The entry, part by part -/

section Parts

variable {s v q t : State}

/-- The entry up to the recognizers: FENCE_ENTERED, the sessions of A and B, the recognizers. -/
structure PartFenced (s v : State) : Prop where
  frame : v = { s with
    pwrgood := false, fence := .fenced, sessions := { a := none, b := none }, sqr := v.sqr, leases := v.leases,
    txns := v.txns, sb := v.sb, claims := v.claims, raised := v.raised }
  sqr : ∀ p, v.sqr.get p = fencedSqr (if (s.sqr.get p).state = .session then Sqr.fresh else s.sqr.get p)
  lease : ∀ w : Fin 16, v.lease w = if s.leasedTo w .a = true ∨ s.leasedTo w .b = true then afterLease (s.window w)
    else s.lease w
  txns : TxnsEnded s v (fun p => stages (s.txns.get p).state) s.cuts
  raised : v.raised = s.raised ++ s.told .fenceEntered .part none 0#16 0#16 ++
    ((if (s.sessions.get .a).isSome then s.sessionEndNotices .a .fence else []) ++
      if (s.sessions.get .b).isSome then s.sessionEndNotices .b .fence else [])

theorem partFenced (h : ∀ p, Fenceable s p) : PartFenced s (fenceSqr .b (fenceSqr .a (endSession .b .fence
    (endSession .a .fence
      (raise .fenceEntered .part none 0#16 0#16 { s with pwrgood := false, fence := .fenced }))))) := by
  rw [raise_told]
  generalize hentered : { ({ s with pwrgood := false, fence := .fenced } : State) with
    raised := ({ s with pwrgood := false, fence := .fenced } : State).raised ++
      ({ s with pwrgood := false, fence := .fenced } : State).told .fenceEntered .part none 0#16 0#16 } = u
  have hu : u = { s with
      pwrgood := false, fence := .fenced,
      raised := s.raised ++ s.told .fenceEntered .part none 0#16 0#16 } := hentered.symm
  have hfenceable (p : Port) : Fenceable u p := by
    obtain ⟨hrecognizer, hstaged, hleases, hunqueued⟩ := h p
    rw [hu]
    exact ⟨hrecognizer, hstaged, hleases, hunqueued⟩
  have ha := endSession_fenced (hfenceable .a)
  obtain ⟨hframe, hsqr, hlease, htxns, hraised⟩ := ha.both (endSession_fenced (ha.other nofun (hfenceable .b)))
  generalize endSession .b .fence (endSession .a .fence u) = b at *
  rw [fenceSqr_eq, fenceSqr_eq]
  subst hu
  refine ⟨?_, fun p => ?_, hlease, htxns.of_views ⟨rfl, rfl, rfl⟩ ⟨rfl, rfl, rfl⟩, hraised⟩
  · conv => lhs; rw [hframe]
    rfl
  · rw [← show b.sqr.get p = _ from hsqr p]
    cases p <;> rfl

theorem queueNotice_of_fenced (hactive : v.active = s.active)
    (h : TxnsEnded s v (fun p => stages (s.txns.get p).state) s.cuts) (p : Port) :
    v.queueNotice p = s.queueNotice p := by
  have hqueued := h.state_eq_iff (p := p) (x := .queued) TxnState.noConfusion
  by_cases hp : (s.txns.get p).state = .queued
  · have hends : stages (s.txns.get p).state = false := by rw [hp]; rfl
    rw [State.queueNotice, State.queueNotice, if_pos hp, if_pos (hqueued.mpr ⟨hends, hp⟩),
      h.outcomeNotice (p := p) hends hactive]
  · rw [State.queueNotice, State.queueNotice, if_neg hp, if_neg fun hc => hp (hqueued.mp hc).2]

theorem stopNotice_of_fenced (hactive : q.active = s.active) (hengine : q.engine = s.engine)
    (hstops : q.stopsAtOnce = s.stopsAtOnce)
    (h : TxnsEnded s q (fun p => stages (s.txns.get p).state || decide ((s.txns.get p).state = .queued)) s.cuts)
    (p : Port) : q.stopNotice p = s.stopNotice p := by
  have hlogging := h.state_eq_iff (p := p) (x := .logging) TxnState.noConfusion
  by_cases hp : (s.txns.get p).state = .logging
  · have hends : (stages (s.txns.get p).state || decide ((s.txns.get p).state = .queued)) = false := by rw [hp]; rfl
    have hq : (q.txns.get p).state = .logging := hlogging.mpr ⟨hends, hp⟩
    rw [State.stopNotice, State.stopNotice, hstops, hengine, h.outcomeNotice (p := p) hends hactive]
    simp only [hp, hq]
  · rw [State.stopNotice, State.stopNotice, if_neg fun hc => hp (hlogging.mp hc.1).2, if_neg fun hc => hp hc.1]

theorem fenceNotices_eq (s : State) : s.fenceNotices =
    (if (s.sessions.get .a).isSome then s.sessionEndNotices .a .fence else []) ++
    (if (s.sessions.get .b).isSome then s.sessionEndNotices .b .fence else []) ++ s.queueNotice .a ++
      s.queueNotice .b ++
    s.stopNotice .a ++ s.stopNotice .b := by
  have hstop (p : Port) : s.stopNotice p = if (s.txns.get p).state = .logging ∧ s.fenceEnds p = true then
      s.outcomeNotice p (stopOutcome (s.engine.stop.getD .fence)) else [] := by
    rw [State.stopNotice]
    exact if_congr (and_congr_right fun h => by rw [fenceEnds_of_logging h]) rfl rfl
  rw [hstop, hstop]
  rfl

/-- The entry up to the queue: then a QUEUED transaction. -/
structure QueueFenced (s q : State) : Prop where
  frame : q = { s with
    pwrgood := false, fence := .fenced, sessions := { a := none, b := none }, sqr := q.sqr, leases := q.leases,
    txns := q.txns, sb := q.sb, claims := q.claims, commitQueue := [], raised := q.raised }
  sqr : ∀ p, q.sqr.get p = fencedSqr (if (s.sqr.get p).state = .session then Sqr.fresh else s.sqr.get p)
  lease : ∀ w : Fin 16, q.lease w = if s.leasedTo w .a = true ∨ s.leasedTo w .b = true then afterLease (s.window w)
    else s.lease w
  txns : TxnsEnded s q (fun p => stages (s.txns.get p).state || decide ((s.txns.get p).state = .queued)) s.cuts
  raised : q.raised = s.raised ++ s.told .fenceEntered .part none 0#16 0#16 ++
    ((if (s.sessions.get .a).isSome then s.sessionEndNotices .a .fence else []) ++
      if (s.sessions.get .b).isSome then s.sessionEndNotices .b .fence else []) ++
    (s.queueNotice .a ++ s.queueNotice .b)

theorem PartFenced.queue (h : PartFenced s v) (hqueue : ∀ p, p ∈ s.commitQueue ↔ (s.txns.get p).state = .queued)
    (hone : s.commitQueue.length ≤ 1) : QueueFenced s (endQueued .fenced v) := by
  obtain ⟨hframe, hsqr, hlease, htxns, hraised⟩ := h
  have hqueue' : v.commitQueue = s.commitQueue := (congrArg State.commitQueue hframe :)
  have hsessions (p : Port) : v.sessions.get p = none :=
    (congrArg (fun u : State => u.sessions.get p) hframe).trans (by cases p <;> rfl)
  have hactive : v.active = s.active := (congrArg State.active hframe :)
  have hmember (p : Port) : p ∈ v.commitQueue ↔ (v.txns.get p).state = .queued := by
    rw [hqueue', hqueue, htxns.state_eq_iff TxnState.noConfusion]
    exact ⟨fun hp => ⟨by rw [hp]; rfl, hp⟩, fun hp => hp.2⟩
  obtain ⟨hqframe, hqtxns, hqraised⟩ := endQueued_ended hmember (hqueue' ▸ hone) hsessions
  have hnotice := queueNotice_of_fenced hactive htxns
  rw [hraised, hnotice .a, hnotice .b] at hqraised
  generalize endQueued .fenced v = q at *
  have hqsqr : q.sqr = v.sqr := (congrArg State.sqr hqframe :)
  have hqlease (w : Fin 16) : q.lease w = v.lease w := (congrArg (State.lease · w) hqframe :)
  have hqleases : q.leases = v.leases := (congrArg State.leases hqframe :)
  refine ⟨?_, fun p => hqsqr ▸ hsqr p, fun w => (hqlease w).trans (hlease w), htxns.queued hqtxns, hqraised⟩
  rw [hframe, ← hqsqr, ← hqleases] at hqframe
  exact hqframe

end Parts

/-- The entry into the fence, from a state of the laws, in full. -/
theorem fenceEntered_of_laws {s : State} (hsession : SessionLaw s) (hlease : LeaseLaw s) (hcommit : CommitLaw s) :
    FenceEntered s (enterFence { s with pwrgood := false }) := by
  have hpart := partFenced (fenceable_of_laws hsession hlease hcommit)
  have hagrees := engineAgrees_of_laws hcommit
  obtain ⟨-, -, hqueue, hone, -⟩ := hcommit
  have hqueued := hpart.queue (onBoth_iff.mp hqueue) hone
  change FenceEntered s (fenceEngine (endQueued .fenced _))
  generalize endQueued .fenced _ = q at *
  obtain ⟨hqframe, hqsqr, hqlease, hqtxns, hqraised⟩ := hqueued
  have hengine : q.engine = s.engine := (congrArg State.engine hqframe :)
  have hwaiting : q.waiting = s.waiting := (congrArg State.waiting hqframe :)
  have hinFlight : q.inFlight = s.inFlight := (congrArg State.inFlight hqframe :)
  have hactive : q.active = s.active := (congrArg State.active hqframe :)
  have hstops : q.stopsAtOnce = s.stopsAtOnce := by
    rw [State.stopsAtOnce, State.stopsAtOnce, State.engineInFlight, State.engineInFlight, hengine, hinFlight]
  obtain ⟨htframe, httxns, htraised⟩ := fenceEngine_fenced (s := q) (hqtxns.agrees hengine hagrees)
    (fun p => (congrArg (fun u : State => u.sessions.get p) hqframe).trans (by cases p <;> rfl))
    (congrArg State.commitQueue hqframe :)
  have hended := hqtxns.logging hstops httxns
  have hlogging : q.engine.state = .logging → fenceEngine q = stopEngine .fence q := fun h => if_pos h
  have hother : q.engine.state ≠ .logging → fenceEngine q = q := fun h => if_neg h
  have hstopped := stopEngine_congr hengine hwaiting hinFlight hactive .fence
  generalize fenceEngine q = t at *
  have htsqr : t.sqr = q.sqr := (congrArg State.sqr htframe :)
  have htlease (w : Fin 16) : t.lease w = q.lease w := (congrArg (State.lease · w) htframe :)
  have htleases : t.leases = q.leases := (congrArg State.leases htframe :)
  refine ⟨?_, fun p => ?_, fun w => ?_, hended.txns, hended.claim, fun h => ?_, fun h => ?_⟩
  · have hsb := hended.sb
    have hnotices : t.raised = s.raised ++ s.told .fenceEntered .part none 0#16 0#16 ++ s.fenceNotices := by
      rw [htraised, stopNotice_of_fenced hactive hengine hstops hqtxns,
        stopNotice_of_fenced hactive hengine hstops hqtxns,
        hqraised, fenceNotices_eq]
      simp only [List.append_assoc]
    have hwhole : t = { s with
        pwrgood := false, fence := .fenced, sessions := { a := none, b := none }, sqr := t.sqr, leases := t.leases,
        txns := t.txns, sb := t.sb, claims := t.claims, commitQueue := [], engine := t.engine, waiting := t.waiting,
        raised := t.raised } := by
      rw [htsqr, htleases]
      exact htframe.trans (congrArg (fun u : State => { u with
        txns := t.txns, sb := t.sb, claims := t.claims, raised := t.raised, engine := t.engine,
        waiting := t.waiting }) hqframe)
    rw [hsb, hnotices] at hwhole
    exact hwhole
  · rw [htsqr, hqsqr]
    exact fencedSqr_ended _
  · rw [htlease, hqlease]
    exact fencedLease_eq w
  · rw [hother (hengine ▸ h)]
    exact ⟨hengine, hwaiting⟩
  · rw [hlogging (hengine ▸ h)]
    exact hstopped

/-- Settles O57: the fall enters the fence, whose parts are followed in the order of 08 R158. -/
theorem pwrgoodFallFencesThePart : Obligations.PwrgoodFallFencesThePart := by
  refine ⟨fun s hready hopened hsession hlease hcommit => ⟨enterFence { s with pwrgood := false }, ?_,
    fenceEntered_of_laws hsession hlease hcommit⟩, fun s hready =>
      congrArg Host.Outcome.next (if_neg fun hc => hready (of_decide_eq_true hc.1))⟩
  exact congrArg Host.Outcome.next (if_pos ⟨decide_eq_true hready, hopened⟩)

end Sys2Proof.Machine

/-! SUPPORT. The laws of the stage buffer, the claims, the engine, recovery and the commit queue, regrouped by port:
what holds of one transaction, of the RECOVERY entries, and of the engine's work. -/

namespace Sys2Proof.Machine

/-! ### The entries of one owner (05 R87, R88) -/

/-- The entries of one owner, in the order in which they joined. -/
def State.owned (s : State) (o : Owner) : List Entry := s.sb.filter (fun e => decide (e.owner = o))

section Owned

variable (s : State) (o : Owner)

theorem entryCount_eq : s.entryCount o = (s.owned o).length := List.countP_eq_length_filter

theorem entryAt_eq (k : Nat) : s.entryAt o k = (s.owned o).find? (fun e => decide (e.position = k)) := by
  rw [State.owned, List.find?_filter, State.entryAt]
  congr 1
  funext e
  simp

variable {s o}

theorem mem_owned {e : Entry} : e ∈ s.owned o ↔ e ∈ s.sb ∧ e.owner = o := by
  rw [State.owned, List.mem_filter, decide_eq_true_iff]

theorem any_owned : s.sb.any (fun e => decide (e.owner = o)) = true ↔ s.owned o ≠ [] := by
  simp [State.owned, List.filter_eq_nil_iff]

theorem entryCount_congr {t : State} (h : t.owned o = s.owned o) : t.entryCount o = s.entryCount o := by
  rw [entryCount_eq, entryCount_eq, h]

theorem entryAt_congr {t : State} (h : t.owned o = s.owned o) (k : Nat) : t.entryAt o k = s.entryAt o k := by
  rw [entryAt_eq, entryAt_eq, h]

theorem entriesOf_congr {t : State} (h : t.owned o = s.owned o) : t.entriesOf o = s.entriesOf o := by
  rw [State.entriesOf, State.entriesOf, entryCount_congr h, funext (entryAt_congr h)]

end Owned

/-! ### The engine's work (06 Table 6-3, R121) -/

/-- `t` gives the engine the words of the same course as `s`. -/
structure SameWork (s t : State) : Prop where
  active : t.active = s.active
  current : t.engine.current = s.engine.current
  owned : ∀ o, s.engine.current = some o → t.owned o = s.owned o
  number : t.engineNumber = s.engineNumber

namespace SameWork

variable {s t : State}

theorem engineEntry (h : SameWork s t) (k : Nat) : t.engineEntry k = s.engineEntry k := by
  rw [State.engineEntry, State.engineEntry, h.current]
  cases hc : s.engine.current with
  | none => rfl
  | some o => exact entryAt_congr (h.owned o hc) k

theorem engineCount (h : SameWork s t) : t.engineCount = s.engineCount := by
  rw [State.engineCount, State.engineCount, h.current]
  cases hc : s.engine.current with
  | none => rfl
  | some o => exact entryCount_congr (h.owned o hc)

theorem engineEntries (h : SameWork s t) : t.engineEntries = s.engineEntries := by
  rw [State.engineEntries, State.engineEntries, h.current]
  cases hc : s.engine.current with
  | none => rfl
  | some o => exact entriesOf_congr (h.owned o hc)

theorem journalAddr (h : SameWork s t) (n : Nat) : t.journalAddr n = s.journalAddr n := by
  rw [State.journalAddr, State.journalAddr, h.active]

theorem inJournal (h : SameWork s t) (x : Addr) : t.inJournal x = s.inJournal x := by
  rw [State.inJournal, State.inJournal, State.journalEntries, State.journalEntries, h.active]

theorem roleAddr (h : SameWork s t) (role : WordRole) : t.roleAddr role = s.roleAddr role := by
  cases role <;> simp only [State.roleAddr, h.journalAddr, h.engineEntry]

theorem roleValue (h : SameWork s t) (role : WordRole) : t.roleValue role = s.roleValue role := by
  cases role <;>
    simp only [State.roleValue, State.headerValue, h.engineEntry, h.engineCount, h.engineEntries, h.number]

theorem roleInRange (h : SameWork s t) (role : WordRole) : roleInRange t role ↔ roleInRange s role := by
  cases role <;> simp only [Machine.roleInRange, h.engineCount]

end SameWork

/-- A word in hand fits its place in the course (06 R114, R118, R121). -/
def WordFits (s : State) (w : WordInHand) : Prop :=
  roleFits s w.role ∧ roleInRange s w.role ∧ 1 ≤ w.attempt ∧ w.attempt ≤ 3 ∧ w.addr = s.roleAddr w.role ∧
  w.value = s.roleValue w.role ∧ (w.role.inHeaderOrSlot = true → s.inJournal w.addr = true)

theorem roleFits_congr {s t : State} (hstage : t.stage = s.stage) (hstate : t.engine.state = s.engine.state)
    (hcurrent : t.engine.current = s.engine.current) (role : WordRole) : roleFits t role ↔ roleFits s role := by
  cases role <;> simp only [roleFits, Engine.ported, hstage, hstate, hcurrent]

theorem WordFits.congr {s t : State} {w : WordInHand} (h : WordFits s w) (hwork : SameWork s t)
    (hstage : t.stage = s.stage) (hstate : t.engine.state = s.engine.state) : WordFits t w := by
  obtain ⟨hfits, hrange, hlow, hhigh, haddr, hvalue, hjournal⟩ := h
  exact ⟨(roleFits_congr hstage hstate hwork.current w.role).mpr hfits, (hwork.roleInRange w.role).mpr hrange, hlow,
    hhigh, haddr.trans (hwork.roleAddr w.role).symm, hvalue.trans (hwork.roleValue w.role).symm,
    fun hr => (hwork.inJournal w.addr).trans (hjournal hr)⟩

/-! ### One transaction -/

/-- The laws of one port's transaction: its entries, its claims, its place in the engine and in the queue. -/
structure TxnSound (s : State) (p : Port) : Prop where
  positions : (s.owned (.port p)).map Entry.position = List.range (s.owned (.port p)).length
  fits : (s.owned (.port p)).length ≤ s.journalEntries
  distinct : ((s.owned (.port p)).map Entry.addr).Nodup
  ready : s.owned (.port p) ≠ [] → s.stage = .operating ∧ (s.txns.get p).state ≠ .none
  claims : ∀ w : Fin 16, s.claim w = some p → (s.window w).enable = true ∧ (s.window w).transactional = true ∧
    ∃ e ∈ s.owned (.port p), s.windowOf e.addr = some w
  claimed : ∀ e ∈ s.owned (.port p), ∃ w, s.windowOf e.addr = some w ∧ s.claim w = some p
  inEngine : inEngine (s.txns.get p).state = true ↔ s.engine.current = some (.port p)
  state : s.engine.current = some (.port p) → (s.txns.get p).state = txnStateOf s.engine.state
  queued : p ∈ s.commitQueue ↔ (s.txns.get p).state = .queued
  held : acceptedState (s.txns.get p).state = true → s.owned (.port p) ≠ []

/-- The laws of the RECOVERY entries. -/
structure RecoverySound (s : State) : Prop where
  positions : (s.owned .recovery).map Entry.position = List.range (s.owned .recovery).length
  fits : (s.owned .recovery).length ≤ s.journalEntries
  place : s.owned .recovery ≠ [] → (s.stage = .recovery ∧ s.engine.current = some .recovery) ∨
    (s.stage = .operating ∧ s.engine.state = .faulted)

/-- The laws but for those of the fence, of the sessions, of the word in hand, and of the length of the queue. -/
structure Grounded (s : State) : Prop where
  profile : ProfileLaw s
  port : ∀ p, TxnSound s p
  recovery : RecoverySound s
  room : s.sb.length ≤ Config.stageCapacity
  nodup : s.commitQueue.Nodup
  course : CourseLaw s
  slot : SlotLaw s

/-- The laws but for those of the fence, of the sessions, and of the length of the queue. -/
structure Sound (s : State) : Prop extends Grounded s where
  word : WordLaw s

/-- The commit queue holds one transaction at most, and none before READY or in FAULTED (06 R116, R130). -/
def QueueLaw (s : State) : Prop :=
  s.commitQueue.length ≤ 1 ∧ (s.engine.state = .faulted ∨ s.stage ≠ .operating → s.commitQueue = [])

section Regrouped

variable {s : State}

theorem stagedLawOf_iff (o : Owner) : StagedLawOf s o ↔
    (s.owned o).map Entry.position = List.range (s.owned o).length ∧ (s.owned o).length ≤ s.journalEntries := by
  rw [StagedLawOf, entryCount_eq]
  rfl

theorem stagedLaw_iff : StagedLaw s ↔ s.sb.length ≤ Config.stageCapacity ∧
    (∀ o, (s.owned o).map Entry.position = List.range (s.owned o).length ∧ (s.owned o).length ≤ s.journalEntries) ∧
    (∀ p, ((s.owned (.port p)).map Entry.addr).Nodup ∧
      (s.owned (.port p) ≠ [] → s.stage = .operating ∧ (s.txns.get p).state ≠ .none)) ∧
    (s.owned .recovery ≠ [] → (s.stage = .recovery ∧ s.engine.current = some .recovery) ∨
      (s.stage = .operating ∧ s.engine.state = .faulted)) := by
  simp only [StagedLaw, onBoth_iff, stagedLawOf_iff, any_owned]
  refine and_congr_right fun _ => ?_
  rw [← and_assoc]
  refine and_congr_left fun _ => ⟨fun h o => ?_, fun h => ⟨fun p => h (.port p), h .recovery⟩⟩
  cases o with
  | port p => exact h.1 p
  | recovery => exact h.2

theorem claimLaw_iff : ClaimLaw s ↔
    ∀ p, (∀ w : Fin 16, s.claim w = some p → (s.window w).enable = true ∧ (s.window w).transactional = true ∧
      ∃ e ∈ s.owned (.port p), s.windowOf e.addr = some w) ∧
    ∀ e ∈ s.owned (.port p), ∃ w, s.windowOf e.addr = some w ∧ s.claim w = some p := by
  simp only [ClaimLaw, ClaimLawOf, mem_owned, and_assoc, Option.map_eq_some_iff]
  exact ⟨fun h p => ⟨fun w => h.1 w p, fun e he => h.2 e he.1 p he.2⟩,
    fun h => ⟨fun w p => (h p).1 w, fun e he p hp => (h p).2 e ⟨he, hp⟩⟩⟩

theorem nodup_of_short {q : List Port} (h : q.length ≤ 1) : q.Nodup := by
  match q, h with
  | [], _ => exact List.nodup_nil
  | [p], _ => exact List.nodup_singleton p

theorem one_le_entryCount (p : Port) : 1 ≤ s.entryCount (.port p) ↔ s.owned (.port p) ≠ [] := by
  rw [entryCount_eq, ← List.length_pos_iff]
  rfl

theorem sound_of_laws (hstaging : StagingLaws s) (hengine : EngineLaws s) : Sound s := by
  obtain ⟨hprofile, -, -, hstaged, hclaims⟩ := hstaging
  obtain ⟨hword, hcourse, hslot, hin, hstate, hqueue, hone, -, hheld⟩ := hengine
  obtain ⟨hroom, howned, hports, hplace⟩ := stagedLaw_iff.mp hstaged
  rw [onBoth_iff] at hin hstate hqueue hheld
  refine ⟨⟨hprofile, fun p => ?_, ⟨(howned _).1, (howned _).2, hplace⟩, hroom, nodup_of_short hone, hcourse, hslot⟩,
    hword⟩
  obtain ⟨hdistinct, hready⟩ := hports p
  obtain ⟨hclaim, hclaimed⟩ := claimLaw_iff.mp hclaims p
  exact ⟨(howned _).1, (howned _).2, hdistinct, hready, hclaim, hclaimed, hin p, hstate p, hqueue p,
    fun ha => (one_le_entryCount p).mp (hheld p ha)⟩

theorem stagingLaws_of_sound (h : Sound s) (hguard : GuardLaw s) : StagingLaws s := by
  refine ⟨h.profile, hguard.1, hguard.2, stagedLaw_iff.mpr ⟨h.room, fun o => ?_, fun p => ?_, h.recovery.place⟩,
    claimLaw_iff.mpr fun p => ⟨(h.port p).claims, (h.port p).claimed⟩⟩
  · cases o with
    | port p => exact ⟨(h.port p).positions, (h.port p).fits⟩
    | recovery => exact ⟨h.recovery.positions, h.recovery.fits⟩
  · exact ⟨(h.port p).distinct, (h.port p).ready⟩

theorem engineLaws_of_sound (h : Sound s) (hqueue : QueueLaw s) : EngineLaws s := by
  obtain ⟨hone, hnone⟩ := hqueue
  refine ⟨h.word, h.course, h.slot, onBoth_iff.mpr fun p => (h.port p).inEngine,
    onBoth_iff.mpr fun p => (h.port p).state, onBoth_iff.mpr fun p => (h.port p).queued, hone, hnone,
    onBoth_iff.mpr fun p ha => (one_le_entryCount p).mpr ((h.port p).held ha)⟩

theorem queueLaw_of_laws (h : EngineLaws s) : QueueLaw s := by
  obtain ⟨-, -, -, -, -, -, hone, hnone, -⟩ := h
  exact ⟨hone, hnone⟩

end Regrouped

/-! ### The laws of the engine, part by part -/

section Parts

variable {s : State}

theorem CourseLaw.start (h : CourseLaw s)
    (hstage : s.stage = .stopped ∨ s.stage = .waitPwrgood ∨ s.stage = .profileRead) :
    s.engine.state = .idle ∧ s.engine.current = none := h.1 hstage

theorem CourseLaw.pass (h : CourseLaw s) (hphase : s.recovery.phase ≠ .none) :
    s.stage = .recovery ∧ s.engine.state = .replayLoad := h.2.1 hphase

theorem CourseLaw.early (h : CourseLaw s) (hphase : s.recovery.phase = .header ∨ s.recovery.phase = .check) :
    s.engine.current = none := h.2.2.1 hphase

theorem CourseLaw.load (h : CourseLaw s) (hphase : s.recovery.phase = .load) : s.engine.current = some .recovery :=
  h.2.2.2.1 hphase

theorem CourseLaw.ready (h : CourseLaw s) (hready : s.stage = .operating) :
    (s.engine.current = none ↔ s.engine.state = .idle ∨ s.engine.state = .faulted) ∧
      s.engine.current ≠ some .recovery := h.2.2.2.2.1 hready

theorem WordLaw.fits (h : WordLaw s) {w : WordInHand} (hw : s.engine.word = some w) : WordFits s w := h.1 w hw

theorem WordLaw.rest (h : WordLaw s) (hready : s.stage = .operating)
    (hstate : s.engine.state = .idle ∨ s.engine.state = .faulted) :
    s.engine.word = none ∧ s.waiting.engine = none ∧ s.engineInFlight = false := h.2.2.2.1 hready hstate

theorem WordLaw.start (h : WordLaw s) (hstage : s.stage = .stopped ∨ s.stage = .waitPwrgood) :
    s.engine.word = none ∧ s.waiting.engine = none ∧ s.engineInFlight = false := h.2.2.2.2.1 hstage

theorem WordLaw.pass (h : WordLaw s) (hpass : s.stage = .profileRead ∨ s.recovery.phase ≠ .none) :
    s.engine.word = none := h.2.2.2.2.2 hpass

theorem SlotLaw.area (h : SlotLaw s) (hstage : s.stage = .recovery) : s.journalEntries ≠ 0 := h.2.2.2.2.2 hstage

end Parts

end Sys2Proof.Machine

/-! SUPPORT. Steps beside the engine: what touches one port's transaction and leaves the engine, recovery and the other
port's transaction as they were (chapters 3 and 5). -/

namespace Sys2Proof.Machine

/-! ### Laws carried over -/

section Carried

variable {s t : State}

theorem ProfileLaw.congr (h : ProfileLaw s) (hprofile : t.profile = s.profile) (hstage : t.stage = s.stage) :
    ProfileLaw t := by
  rw [ProfileLaw, hprofile, hstage]
  exact h

theorem CourseLaw.congr (h : CourseLaw s) (hstage : t.stage = s.stage) (hrecovery : t.recovery = s.recovery)
    (hstate : t.engine.state = s.engine.state) (hcurrent : t.engine.current = s.engine.current) : CourseLaw t := by
  simp only [CourseLaw, Engine.ported, hstage, hrecovery, hstate, hcurrent]
  exact h

theorem SlotLaw.congr (h : SlotLaw s) (hactive : t.active = s.active) (hstage : t.stage = s.stage)
    (hrecovery : t.recovery = s.recovery) (howned : t.owned .recovery = s.owned .recovery) : SlotLaw t := by
  simp only [SlotLaw, State.loggedCount, State.headerRead, State.journalEntries, entryCount_eq, hactive, hstage,
    hrecovery, howned]
  simp only [SlotLaw, State.loggedCount, State.headerRead, State.journalEntries, entryCount_eq] at h
  exact h

theorem RecoverySound.congr (h : RecoverySound s) (hactive : t.active = s.active) (hstage : t.stage = s.stage)
    (hstate : t.engine.state = s.engine.state) (hcurrent : t.engine.current = s.engine.current)
    (howned : t.owned .recovery = s.owned .recovery) : RecoverySound t := by
  obtain ⟨hpositions, hfits, hplace⟩ := h
  refine ⟨by rw [howned, hpositions], ?_, by rw [howned, hstage, hstate, hcurrent]; exact hplace⟩
  rw [howned, State.journalEntries, hactive]
  exact hfits

theorem engineInFlight_congr (h : t.inFlight = s.inFlight) : t.engineInFlight = s.engineInFlight := by
  rw [State.engineInFlight, State.engineInFlight, h]

theorem WordLaw.congr (h : WordLaw s) (hwork : SameWork s t) (hstage : t.stage = s.stage)
    (hrecovery : t.recovery = s.recovery) (hstate : t.engine.state = s.engine.state)
    (hword : t.engine.word = s.engine.word) (hrequest : t.waiting.engine = s.waiting.engine)
    (hflight : t.inFlight = s.inFlight) : WordLaw t := by
  obtain ⟨hfits, hlaw⟩ := h
  refine ⟨fun w hw => WordFits.congr (hfits w (hword ▸ hw)) hwork hstage hstate, ?_⟩
  have hinFlight := engineInFlight_congr hflight
  simp only [engineAsks, hstage, hrecovery, hstate, hword, hrequest, hflight, hinFlight]
  exact hlaw

/-- What the laws of a port's transaction speak of is the same. -/
structure SameTxn (s t : State) (p : Port) : Prop where
  owned : t.owned (.port p) = s.owned (.port p)
  state : (t.txns.get p).state = (s.txns.get p).state
  claim : ∀ w : Fin 16, t.claim w = some p ↔ s.claim w = some p
  queue : p ∈ t.commitQueue ↔ p ∈ s.commitQueue

theorem windowOf_congr (h : t.active = s.active) (x : Addr) : t.windowOf x = s.windowOf x := by
  simp only [State.windowOf, State.window, h]

theorem TxnSound.congr {p : Port} (h : TxnSound s p) (same : SameTxn s t p) (hactive : t.active = s.active)
    (hstage : s.stage = .operating → t.stage = .operating)
    (hcurrent : t.engine.current = some (.port p) ↔ s.engine.current = some (.port p))
    (hstate : s.engine.current = some (.port p) → t.engine.state = s.engine.state) : TxnSound t p := by
  obtain ⟨hpositions, hfits, hdistinct, hready, hclaims, hclaimed, hin, hcur, hqueued, hheld⟩ := h
  obtain ⟨howned, htxn, hclaim, hqueue⟩ := same
  have hwindow (w : Fin 16) : t.window w = s.window w := by rw [State.window, State.window, hactive]
  constructor
  case positions => rw [howned, hpositions]
  case fits =>
    rw [howned, State.journalEntries, hactive]
    exact hfits
  case distinct => rwa [howned]
  case ready =>
    rw [howned, htxn]
    exact fun hne => (hready hne).imp_left hstage
  case claims =>
    intro w hw
    rw [hwindow, howned]
    simp only [windowOf_congr hactive]
    exact hclaims w ((hclaim w).mp hw)
  case claimed =>
    rw [howned]
    intro e he
    obtain ⟨w, hw, hc⟩ := hclaimed e he
    exact ⟨w, (windowOf_congr hactive _).trans hw, (hclaim w).mpr hc⟩
  case inEngine => rw [htxn, hcurrent, hin]
  case state =>
    intro hc
    rw [htxn, hstate (hcurrent.mp hc)]
    exact hcur (hcurrent.mp hc)
  case queued => rw [hqueue, htxn, hqueued]
  case held => rwa [htxn, howned]

end Carried

/-! ### Beside the engine -/

/-- From s to t only port p's transaction has changed, and the engine does not work on it. -/
structure Beside (s t : State) (p : Port) : Prop where
  profile : t.profile = s.profile
  stage : t.stage = s.stage
  recovery : t.recovery = s.recovery
  engine : t.engine = s.engine
  request : t.waiting.engine = s.waiting.engine
  inFlight : t.inFlight = s.inFlight
  owned : ∀ o, o ≠ .port p → t.owned o = s.owned o
  txn : ∀ q, q ≠ p → t.txns.get q = s.txns.get q
  claim : ∀ (w : Fin 16) q, q ≠ p → (t.claim w = some q ↔ s.claim w = some q)
  queue : ∀ q, q ≠ p → (q ∈ t.commitQueue ↔ q ∈ s.commitQueue)
  idle : s.engine.current ≠ some (.port p)

section BesideEngine

variable {s t : State} {p : Port}

theorem Beside.active (h : Beside s t p) : t.active = s.active := congrArg (·.getD noProfile) h.profile

theorem Beside.sameWork (h : Beside s t p) : SameWork s t := by
  refine ⟨h.active, by rw [h.engine], fun o ho => h.owned o fun hp => h.idle (hp ▸ ho), ?_⟩
  rw [State.engineNumber, State.engineNumber, h.engine]
  cases hc : s.engine.current with
  | none => rfl
  | some o =>
    cases o with
    | recovery => rfl
    | port q => exact congrArg (fun x : Txn => x.number.getD 0#16) (h.txn q fun hq => h.idle (hq ▸ hc))

theorem Sound.beside (h : Sound s) (b : Beside s t p) (hp : TxnSound t p)
    (hroom : t.sb.length ≤ Config.stageCapacity) (hnodup : t.commitQueue.Nodup) : Sound t where
  profile := h.profile.congr b.profile b.stage
  port q := by
    by_cases hq : q = p
    · exact hq ▸ hp
    · refine (h.port q).congr ⟨b.owned _ (by simpa using hq), by rw [b.txn q hq], fun w => b.claim w q hq, b.queue q hq⟩
        b.active (fun hs => b.stage.trans hs) (by rw [b.engine]) fun _ => by rw [b.engine]
  recovery := h.recovery.congr b.active b.stage (by rw [b.engine]) (by rw [b.engine]) (b.owned _ nofun)
  room := hroom
  nodup := hnodup
  word := h.word.congr b.sameWork b.stage b.recovery (by rw [b.engine]) (by rw [b.engine]) b.request b.inFlight
  course := h.course.congr b.stage b.recovery (by rw [b.engine]) (by rw [b.engine])
  slot := h.slot.congr b.active b.stage b.recovery (b.owned _ nofun)

/-- A port without a transaction. -/
theorem TxnSound.of_none (howned : s.owned (.port p) = []) (hclaim : ∀ w : Fin 16, s.claim w ≠ some p)
    (hstate : (s.txns.get p).state = .none) (hcurrent : s.engine.current ≠ some (.port p))
    (hqueue : p ∉ s.commitQueue) : TxnSound s p := by
  constructor
  case positions => rw [howned]; rfl
  case fits => rw [howned]; exact Nat.zero_le _
  case distinct => rw [howned]; exact List.nodup_nil
  case ready => exact fun h => absurd howned h
  case claims => exact fun w hw => absurd hw (hclaim w)
  case claimed => rw [howned]; nofun
  case inEngine => rw [hstate]; exact iff_of_false nofun hcurrent
  case state => exact fun h => absurd h hcurrent
  case queued => rw [hstate]; exact iff_of_false hqueue nofun
  case held => rw [hstate]; nofun

end BesideEngine

/-! ### A transaction that ends beside the engine (05 R106) -/

section Ended

variable {s : State} {p : Port} {o : TxnOutcome}

theorem owned_filter_other {f : Entry → Bool} {t : State} {x : Owner} (ht : t.sb = s.sb.filter f)
    (hf : ∀ e, e.owner = x → f e = true) : t.owned x = s.owned x := by
  rw [State.owned, ht, List.filter_filter]
  refine List.filter_congr fun e _ => ?_
  by_cases he : e.owner = x
  · simp [he, hf e he]
  · simp [he]

theorem owned_filter_none {f : Entry → Bool} {t : State} {x : Owner} (ht : t.sb = s.sb.filter f)
    (hf : ∀ e, e.owner = x → f e = false) : t.owned x = [] := by
  rw [State.owned, ht, List.filter_filter, List.filter_eq_nil_iff]
  intro e _ he
  obtain ⟨howner, hkept⟩ := by simpa using he
  exact Bool.false_ne_true ((hf e howner).symm.trans hkept)

theorem endTxn_owned_self (ho : o ≠ .applyFault) : (endTxn p o s).owned (.port p) = [] :=
  owned_filter_none ((endTxn_sb p o s).trans (entriesAfter_of_ne ho p s.sb)) fun e he => by simp [he]

theorem endTxn_owned_other (ho : o ≠ .applyFault) {x : Owner} (hx : x ≠ .port p) :
    (endTxn p o s).owned x = s.owned x :=
  owned_filter_other ((endTxn_sb p o s).trans (entriesAfter_of_ne ho p s.sb)) fun e he => by simp [he, hx]

theorem endTxn_claim_iff (w : Fin 16) (q : Port) :
    (endTxn p o s).claim w = some q ↔ s.claim w = some q ∧ q ≠ p := by
  rw [endTxn_claim, releaseClaim]
  by_cases hc : s.claim w = some p
  · rw [if_pos hc, hc]
    exact iff_of_false nofun fun h => h.2 (Option.some.inj h.1).symm
  · rw [if_neg hc]
    exact ⟨fun h => ⟨h, fun hq => hc (hq ▸ h)⟩, And.left⟩

theorem endTxn_queue_iff (q : Port) : q ∈ (endTxn p o s).commitQueue ↔ q ∈ s.commitQueue ∧ q ≠ p := by
  rw [endTxn_commitQueue, List.mem_filter, decide_eq_true_iff]

theorem endTxn_sb_length : (endTxn p o s).sb.length ≤ s.sb.length := by
  rw [endTxn_sb]
  unfold entriesAfter
  split
  · rw [List.length_map]
  · exact List.length_filter_le ..

theorem endTxn_txn_self : (endTxn p o s).txns.get p = Txn.empty := by
  rw [endTxn_txns, PerPort_get_set_same]

theorem endTxn_txn_other {q : Port} (hq : q ≠ p) : (endTxn p o s).txns.get q = s.txns.get q := by
  rw [endTxn_txns, PerPort_get_set, if_neg hq]

theorem endTxn_beside (ho : o ≠ .applyFault) (h : s.engine.current ≠ some (.port p)) :
    Beside s (endTxn p o s) p where
  profile := by rw [endTxn_frame]
  stage := by rw [endTxn_frame]
  recovery := by rw [endTxn_frame]
  engine := by rw [endTxn_frame]
  request := by rw [endTxn_frame]
  inFlight := by rw [endTxn_frame]
  owned x hx := endTxn_owned_other ho hx
  txn q hq := endTxn_txn_other hq
  claim w q hq := by rw [endTxn_claim_iff, and_iff_left hq]
  queue q hq := by rw [endTxn_queue_iff, and_iff_left hq]
  idle := h

theorem endTxn_txnSound (ho : o ≠ .applyFault) {e : Engine} {t : State}
    (ht : t.owned (.port p) = (endTxn p o s).owned (.port p) ∧ t.claims = (endTxn p o s).claims ∧
      t.txns = (endTxn p o s).txns ∧ t.commitQueue = (endTxn p o s).commitQueue ∧ t.engine = e)
    (h : e.current ≠ some (.port p)) : TxnSound t p := by
  obtain ⟨howned, hclaims, htxns, hqueue, hengine⟩ := ht
  refine .of_none (howned.trans (endTxn_owned_self ho)) (fun w hw => ?_) ?_ (hengine ▸ h) fun hp => ?_
  · rw [State.claim, hclaims] at hw
    exact ((endTxn_claim_iff w p).mp hw).2 rfl
  · rw [htxns, endTxn_txn_self]
    rfl
  · rw [hqueue] at hp
    exact ((endTxn_queue_iff p).mp hp).2 rfl

/-- The end of a transaction that the engine does not work on. -/
theorem Sound.endTxn (h : Sound s) (ho : o ≠ .applyFault) (hidle : s.engine.current ≠ some (.port p)) :
    Sound (endTxn p o s) :=
  h.beside (endTxn_beside ho hidle)
    (endTxn_txnSound ho ⟨rfl, rfl, rfl, rfl, endTxn_engine p o s⟩ hidle) (endTxn_sb_length.trans h.room)
    (by rw [endTxn_commitQueue]; exact h.nodup.filter _)

end Ended

end Sys2Proof.Machine

/-! SUPPORT. Steps that touch nothing of the laws, and the steps of one port's transaction: BEGIN, a staged write, the
commit queue and the take (05 R85 to R104, 06 R116, R117). -/

namespace Sys2Proof.Machine

/-! ### Steps aside -/

/-- From s to t nothing has changed that the laws of transactions and of the engine speak of. -/
structure Aside (s t : State) : Prop where
  profile : t.profile = s.profile
  stage : t.stage = s.stage
  recovery : t.recovery = s.recovery
  engine : t.engine = s.engine
  request : t.waiting.engine = s.waiting.engine
  inFlight : t.inFlight = s.inFlight
  sb : t.sb = s.sb
  state : ∀ p, (t.txns.get p).state = (s.txns.get p).state
  number : ∀ p, (t.txns.get p).number = (s.txns.get p).number
  claims : t.claims = s.claims
  queue : t.commitQueue = s.commitQueue

namespace Aside

variable {s t u : State}

theorem of_frame (h : t = { s with
    ports := t.ports, sqr := t.sqr, sessions := t.sessions, leases := t.leases, raised := t.raised }) : Aside s t := by
  rw [h]
  exact ⟨rfl, rfl, rfl, rfl, rfl, rfl, rfl, fun _ => rfl, fun _ => rfl, rfl, rfl⟩

theorem refl (s : State) : Aside s s := of_frame rfl

theorem trans (h : Aside s t) (k : Aside t u) : Aside s u where
  profile := k.profile.trans h.profile
  stage := k.stage.trans h.stage
  recovery := k.recovery.trans h.recovery
  engine := k.engine.trans h.engine
  request := k.request.trans h.request
  inFlight := k.inFlight.trans h.inFlight
  sb := k.sb.trans h.sb
  state p := (k.state p).trans (h.state p)
  number p := (k.number p).trans (h.number p)
  claims := k.claims.trans h.claims
  queue := k.queue.trans h.queue

theorem active (h : Aside s t) : t.active = s.active := congrArg (·.getD noProfile) h.profile

theorem owned (h : Aside s t) (o : Owner) : t.owned o = s.owned o := by
  rw [State.owned, State.owned, h.sb]

theorem claim (h : Aside s t) (w : Fin 16) : t.claim w = s.claim w := by
  rw [State.claim, State.claim, h.claims]

theorem sameTxn (h : Aside s t) (p : Port) : SameTxn s t p :=
  ⟨h.owned _, h.state p, fun w => by rw [h.claim], by rw [h.queue]⟩

theorem sameWork (h : Aside s t) : SameWork s t := by
  refine ⟨h.active, by rw [h.engine], fun o _ => h.owned o, ?_⟩
  rw [State.engineNumber, State.engineNumber, h.engine]
  cases s.engine.current with
  | none => rfl
  | some o =>
    cases o with
    | recovery => rfl
    | port q => exact congrArg (·.getD 0#16) (h.number q)

end Aside

section AsideLaws

variable {s t : State}

theorem Sound.aside (h : Sound s) (a : Aside s t) : Sound t where
  profile := h.profile.congr a.profile a.stage
  port p := (h.port p).congr (a.sameTxn p) a.active (fun hs => a.stage.trans hs) (by rw [a.engine])
    fun _ => by rw [a.engine]
  recovery := h.recovery.congr a.active a.stage (by rw [a.engine]) (by rw [a.engine]) (a.owned _)
  room := by rw [a.sb]; exact h.room
  nodup := by rw [a.queue]; exact h.nodup
  word := h.word.congr a.sameWork a.stage a.recovery (by rw [a.engine]) (by rw [a.engine]) a.request a.inFlight
  course := h.course.congr a.stage a.recovery (by rw [a.engine]) (by rw [a.engine])
  slot := h.slot.congr a.active a.stage a.recovery (a.owned _)

theorem QueueLaw.congr (h : QueueLaw s) (hqueue : t.commitQueue = s.commitQueue)
    (hstate : t.engine.state = s.engine.state) (hstage : t.stage = s.stage) : QueueLaw t := by
  rw [QueueLaw, hqueue, hstate, hstage]
  exact h

/-- The laws of the transactions, the engine, recovery and the queue. -/
structure Lawful (s : State) : Prop where
  sound : Sound s
  queue : QueueLaw s

theorem Lawful.aside (h : Lawful s) (a : Aside s t) : Lawful t :=
  ⟨h.sound.aside a, h.queue.congr a.queue (by rw [a.engine]) a.stage⟩

theorem Lawful.endTxn {p : Port} {o : TxnOutcome} (h : Lawful s) (ho : o ≠ .applyFault)
    (hidle : s.engine.current ≠ some (.port p)) : Lawful (endTxn p o s) := by
  obtain ⟨hsound, hone, hnone⟩ := h
  refine ⟨hsound.endTxn ho hidle, ?_, fun hc => ?_⟩
  · rw [endTxn_commitQueue]
    exact (List.length_filter_le ..).trans hone
  · rw [endTxn_engine, (endTxn_beside ho hidle).stage] at hc
    rw [endTxn_commitQueue, hnone hc]
    rfl

end AsideLaws

section AsideSteps

variable (s : State) (p : Port)

theorem raise_aside (n : EventName) (who : Concerned) (w : Option (Fin 16)) (hi lo : Word) :
    Aside s (raise n who w hi lo s) := .of_frame (by rw [raise_frame])

theorem setSqr_aside (q : Sqr) : Aside s (s.setSqr p q) := .of_frame rfl
theorem setSession_aside (x : Option Session) : Aside s (s.setSession p x) := .of_frame rfl
theorem setLease_aside (w : Fin 16) (l : Lease) : Aside s (s.setLease w l) := .of_frame rfl
theorem setPort_aside (c : ClientPort) : Aside s (s.setPort p c) := .of_frame rfl
theorem completeCycle_aside (a : Option Word) : Aside s (completeCycle p a s) := .of_frame rfl

theorem requestClient_aside (kind : AccessKind) (x : Addr) : Aside s (requestClient p kind x s) :=
  ⟨rfl, rfl, rfl, rfl, rfl, rfl, rfl, fun _ => rfl, fun _ => rfl, rfl, rfl⟩

theorem setAlertMask_aside (m : BitVec 8) : Aside s (s.setAlertMask p m) :=
  ⟨rfl, rfl, rfl, rfl, rfl, rfl, rfl, fun _ => rfl, fun _ => rfl, rfl, rfl⟩

theorem records_aside (rs : List EventRecord) : Aside s { s with records := rs } :=
  ⟨rfl, rfl, rfl, rfl, rfl, rfl, rfl, fun _ => rfl, fun _ => rfl, rfl, rfl⟩

theorem countAbsorbed_aside : Aside s (countAbsorbed s) :=
  ⟨rfl, rfl, rfl, rfl, rfl, rfl, rfl, fun _ => rfl, fun _ => rfl, rfl, rfl⟩

theorem respond_aside (v : Byte) (r : Result) (more : List Word) : Aside s (respond p v r more s) :=
  .of_frame (by rw [respond_frame])

theorem restartIdle_aside : Aside s (restartIdle p s) := .of_frame (by rw [restartIdle_frame])

theorem observe_aside (x : Addr) (d : Word) : Aside s (observe p x d s) := .of_frame (by rw [observe_frame])

theorem settleWrite_aside (x : Addr) (d : Word) : Aside s (settleWrite p x d s) :=
  (observe_aside s p x d).trans (completeCycle_aside ..)

theorem spendUnit_aside (w : Fin 16) : Aside s (spendUnit p w s) := .of_frame (by rw [spendUnit_frame])

theorem spendAt_aside (x : Addr) : Aside s (spendAt p x s) := .of_frame (by rw [spendAt_frame])

theorem endLease_aside (w : Fin 16) (c : LeaseCause) : Aside s (endLease w c s) := .of_frame (by rw [endLease_frame])

theorem endLeasesOf_aside (c : LeaseCause) : Aside s (endLeasesOf p c s) := .of_frame (by rw [endLeasesOf_frame])

theorem openLeaseFor_aside (k : Fin 4) (w : Fin 16) : Aside s (openLeaseFor p k w s) :=
  (setLease_aside ..).trans (raise_aside ..)

theorem setAwaited_aside : Aside s (setAwaited p s) := by
  unfold setAwaited
  split
  · exact setSession_aside ..
  · exact .refl s

theorem fenceSqr_aside : Aside s (fenceSqr p s) := by
  unfold fenceSqr
  split
  · exact setSqr_aside ..
  · exact .refl s

/-- The link of a transaction is no matter of the laws. -/
theorem cutLink_aside : Aside s (s.setTxn p { s.txns.get p with linked := false }) := by
  have htxn (q : Port) : (s.setTxn p { s.txns.get p with linked := false }).txns.get q =
      if q = p then { s.txns.get p with linked := false } else s.txns.get q := PerPort_get_set ..
  refine ⟨rfl, rfl, rfl, rfl, rfl, rfl, rfl, fun q => ?_, fun q => ?_, rfl, rfl⟩ <;>
  · rw [htxn]
    split
    · next hq => rw [hq]
    · rfl

end AsideSteps

/-! ### A transaction that begins or overflows -/

section Moves

variable {s : State} {p : Port}

theorem not_current_of_not_inEngine (h : Sound s) (hstate : inEngine (s.txns.get p).state = false) :
    s.engine.current ≠ some (.port p) :=
  fun hc => Bool.false_ne_true (hstate.symm.trans ((h.port p).inEngine.mpr hc))

/-- A transaction's record changes, and nothing else. -/
theorem setTxn_beside (h : s.engine.current ≠ some (.port p)) (t : Txn) : Beside s (s.setTxn p t) p where
  profile := rfl
  stage := rfl
  recovery := rfl
  engine := rfl
  request := rfl
  inFlight := rfl
  owned _ _ := rfl
  txn q hq := by rw [setTxn_txns, PerPort_get_set, if_neg hq]
  claim _ _ _ := Iff.rfl
  queue _ _ := Iff.rfl
  idle := h

/-- A transaction outside the engine and the queue moves to another such state. -/
theorem Sound.setTxn (h : Sound s) (hin : inEngine (s.txns.get p).state = false)
    (hqueued : (s.txns.get p).state ≠ .queued) {t : Txn} (ht : stages t.state = true)
    (hready : s.owned (.port p) ≠ [] → s.stage = .operating) : Sound (s.setTxn p t) := by
  have hidle := not_current_of_not_inEngine h hin
  have hport := h.port p
  have htxn : (s.setTxn p t).txns.get p = t := PerPort_get_set_same ..
  have hnone : t.state ≠ .none := fun hc => by rw [hc] at ht; cases ht
  have hout : inEngine t.state = false := by revert ht; cases t.state <;> decide
  have hunqueued : t.state ≠ .queued := fun hc => by rw [hc] at ht; cases ht
  have hunaccepted : acceptedState t.state = false := by revert ht; cases t.state <;> decide
  refine h.beside (setTxn_beside hidle t) ⟨hport.positions, hport.fits, hport.distinct, fun hne => ⟨hready hne, ?_⟩,
    hport.claims, hport.claimed, ?_, fun hc => absurd hc hidle, ?_, fun hc => ?_⟩ h.room h.nodup
  · rwa [htxn]
  · rw [htxn, hout]
    exact iff_of_false nofun hidle
  · rw [htxn]
    exact iff_of_false (mt hport.queued.mp hqueued) hunqueued
  · rw [htxn, hunaccepted] at hc
    cases hc

end Moves

end Sys2Proof.Machine

/-! SUPPORT. The profile in force over every effect (07 R141, R144, R145), and the law of the recognizers over the
operations of chapter 2, and so over every effect. -/

namespace Sys2Proof.Machine

/-! ### The profile in force -/

/-- A profile that passes the checks which the profile in force has passed. -/
def Legal (f : Profile) : Prop :=
  checkRange f = none ∧ checkOverlap f = none ∧ checkPlace f = none ∧ checkSize f = none ∧ checkKeys f = none ∧
  checkCommand f = none ∧ checkTimers f 0#16 = none

section InForce

variable {s t : State} {f : Profile}

theorem legal_bypassProfile : Legal bypassProfile := by unfold Legal; decide

theorem legal_fallbackProfile : Legal fallbackProfile := by unfold Legal; decide

theorem checkTimers_zero {background : Word} (h : checkTimers f background = none) : checkTimers f 0#16 = none := by
  by_cases hranged : TimersRanged f background
  · obtain ⟨hstep, hbreak, hlockout, hidle, hholdoff, -⟩ := hranged
    exact checkTimers_of_ranged ⟨hstep, hbreak, hlockout, hidle, hholdoff, by decide⟩
  · rw [checkTimers_of_not_ranged hranged] at h
    cases h

theorem legal_of_validated {ws : List Word} (h : validateProfile ws = none) : Legal (parseProfile ws) := by
  simp only [validateProfile_eq, Option.or_eq_none_iff] at h
  obtain ⟨-, hrange, hoverlap, hplace, hsize, hkeys, hcommand, htimers⟩ := h
  exact ⟨hrange, hoverlap, hplace, hsize, hkeys, hcommand, checkTimers_zero htimers⟩

theorem ProfileLaw.of_legal (h : Legal f) (ht : t.profile = some f) : ProfileLaw t := by
  refine ⟨fun g hg => ?_, fun _ => ?_⟩
  · rw [ht] at hg
    exact Option.some.inj hg ▸ h
  · rw [ht]
    nofun

theorem ProfileLaw.of_none (ht : t.profile = none) (hstage : ¬ (t.stage = .recovery ∨ t.stage = .operating)) :
    ProfileLaw t := ⟨fun f hf => (by rw [ht] at hf; cases hf), fun h => absurd h hstage⟩

/-- The profile stays, and recovery is not entered from without. -/
theorem ProfileLaw.forward (h : ProfileLaw s) (hprofile : t.profile = s.profile)
    (hstage : t.stage = .recovery ∨ t.stage = .operating → s.stage = .recovery ∨ s.stage = .operating) :
    ProfileLaw t := by
  rw [ProfileLaw, hprofile]
  exact ⟨h.1, fun ht => h.2 (hstage ht)⟩

theorem ProfileLaw.legal (h : ProfileLaw s) (hstage : s.stage = .recovery ∨ s.stage = .operating) :
    Legal s.active := by
  rw [State.active]
  cases hf : s.profile with
  | none => exact absurd hf (h.2 hstage)
  | some f => exact h.1 f hf

theorem Advances.profileLaw (h : Advances s t) (hlaw : ProfileLaw s)
    (hstage : s.stage = .recovery ∨ s.stage = .operating) : ProfileLaw t := hlaw.forward h.profile fun _ => hstage

theorem Operates.profileLaw (h : Operates s t) (hlaw : ProfileLaw s) : ProfileLaw t := hlaw.congr h.profile h.stage

theorem Steady.profileLaw (h : Steady s t) (hlaw : ProfileLaw s) : ProfileLaw t := hlaw.congr h.profile h.stage

/-- The engine has a word in hand only from recovery on. -/
theorem stage_of_word (h : WordLaw s) {w : WordInHand} (hw : s.engine.word = some w) :
    s.stage = .recovery ∨ s.stage = .operating := by
  obtain ⟨-, -, -, -, hstart, hread⟩ := h
  have hsome : s.engine.word ≠ none := by rw [hw]; nofun
  cases hs : s.stage with
  | stopped => exact absurd (hstart (.inl hs)).1 hsome
  | waitPwrgood => exact absurd (hstart (.inr hs)).1 hsome
  | profileRead => exact absurd (hread (.inl hs)) hsome
  | recovery => exact .inl rfl
  | operating => exact .inr rfl

theorem startUp_profileLaw (s : State) : ProfileLaw (startUp s) := by
  unfold startUp
  dsimp only
  split
  · have h := (raise_calm (installProfile bypassProfile .bypass (initialise s)) .bypass .part none 0#16 0#16).trans
      (calm_closed.readyRise _)
    exact .of_legal legal_bypassProfile h.profile
  split
  · exact .of_none rfl nofun
  · exact .of_none rfl nofun

theorem takeProfileWord_profileLaw (w : Word) (h : ProfileLaw s) : ProfileLaw (takeProfileWord w s) := by
  unfold takeProfileWord
  dsimp only
  split
  · exact h.congr rfl rfl
  unfold concludeProfile
  split
  · next hvalid =>
    dsimp only
    split
    · exact .of_legal (legal_of_validated hvalid) (calm_closed.readyRise _).profile
    · exact .of_legal (legal_of_validated hvalid) rfl
  · next reason item _ =>
    exact .of_legal legal_fallbackProfile ((raise_calm (installProfile fallbackProfile (.rejected reason)
      { s with candidate := [], inFlight := none }) .profileRejected .part none ((rejectCode reason).setWidth 16)
      item).trans (calm_closed.readyRise _)).profile

theorem settleCycle_profileLaw (p : Port) (kind : AccessKind) (x : Addr) (h : ProfileLaw s) :
    ProfileLaw (settleCycle p kind x s) := by
  obtain ⟨a, u, hu, heq⟩ | ⟨-, a, heq⟩ | ⟨-, u, hu, heq, -⟩ := settleCycle_cases p kind x s
  · rw [heq]
    exact (hu.profileLaw h).congr rfl rfl
  · rw [heq]
    exact h.congr rfl rfl
  · rw [heq]
    exact (hu.profileLaw h).congr rfl rfl

theorem useGrant_profileLaw (r : Requester) (q : Request) (h : ProfileLaw s) :
    ProfileLaw (useGrant r q (grantTo r s)) := by
  have hgrant : ProfileLaw (grantTo r s) := by cases r <;> exact h.congr rfl rfl
  cases r with
  | engine => exact hgrant.congr rfl rfl
  | client p =>
    change ProfileLaw (useClientGrant p q (grantTo (.client p) s))
    obtain ⟨a, u, hu, heq⟩ | heq := useClientGrant_cases p q (grantTo (.client p) s)
    · rw [heq]
      exact (hu.profileLaw hgrant).congr rfl rfl
    · rw [heq]
      exact hgrant.congr rfl rfl

/-- Every effect keeps the law of the profile in force. -/
theorem Effect.profileLaw (h : Effect s t) (hlaw : ProfileLaw s) (hword : WordLaw s) (hcourse : CourseLaw s) :
    ProfileLaw t := by
  have hpass (hphase : s.recovery.phase ≠ .none) : s.stage = .recovery ∨ s.stage = .operating :=
    .inl (hcourse.pass hphase).1
  cases h with
  | startsUp => exact startUp_profileLaw _
  | heldInReset | resetnFalls | supplyLost => exact .of_none rfl nofun
  | fenceEntered => exact (enterFence_operates _).profileLaw (hlaw.congr rfl rfl)
  | fenceLeft =>
    exact (raise_operates { s with pwrgood := true } (name := .fenceLeft) (by decide) .part none 0#16
      s.absorbed).profileLaw (hlaw.congr rfl rfl) |>.congr rfl rfl
  | waitEnds waits => exact hlaw.forward rfl nofun
  | profileWord w => exact takeProfileWord_profileLaw w hlaw
  | headerWord w x phase => exact (advances_closed.takeHeaderWord s w).profileLaw hlaw (hpass (by rw [phase]; nofun))
  | checkWord w x phase => exact (advances_closed.takeCheckWord s w).profileLaw hlaw (hpass (by rw [phase]; nofun))
  | loadWord w x phase => exact (advances_closed.takeLoadWord s w).profileLaw hlaw (hpass (by rw [phase]; nofun))
  | granted r q => exact useGrant_profileLaw r q hlaw
  | writeDone p x d w =>
    exact ((spendAt_operates p ((s.writeWord x w).setInFlight none) x).trans
      (observe_operates p _ x d)).profileLaw (hlaw.congr rfl rfl) |>.congr rfl rfl
  | engineWrote w x d v writes word =>
    have hworks := stage_of_word hword word
    exact ((operates_closed.advanceNumber ((s.writeWord x v).setInFlight none) w).advances.trans
      (advances_closed.afterWrite _ w)).profileLaw (hlaw.congr rfl rfl) hworks
  | engineVerified w x v reads word =>
    have hworks := stage_of_word hword word
    exact (advances_closed.afterReadBack (s.setInFlight none) w v).profileLaw (hlaw.congr rfl rfl)
      hworks
  | engineTakes => exact (operates_closed.engineTake s).profileLaw hlaw
  | cycleTaken p kind x gone => exact settleCycle_profileLaw p kind x (hlaw.congr rfl rfl)
  | stepTimerEnds p =>
    split
    · exact (countBreak_operates ..).profileLaw hlaw
    · exact hlaw.congr rfl rfl
  | lockoutEnds p => exact ((setSqr_operates s p _).trans (raise_operates _ (by decide) ..)).profileLaw hlaw
  | idleTimerEnds p => exact (endSession_operates ..).profileLaw hlaw
  | lifetimeEnds w => exact (endLease_operates ..).profileLaw hlaw
  | arrives n rest =>
    rw [takeNotice_frame]
    exact hlaw.congr rfl rfl
  | same | resetnMoves | pwrgoodMoves | readAnswered | holdoffEnds | cycleAbandoned | endingExit =>
    exact hlaw.congr rfl rfl

end InForce

/-! ### What a recognizer holds (02 R29 to R39) -/

/-- The law of one recognizer after READY, under the keys and the break threshold in force. -/
structure SqrFits (s : State) (q : Sqr) : Prop where
  quiet : q.state ≠ .watching → q.progress = noProgress ∧ q.stepTimer = .stopped
  timed : q.stepTimer ≠ .stopped ↔ q.progress ≠ noProgress
  short : ∀ k : Fin 4, q.progress[k] ≠ 0 → q.progress[k] < (s.key k).stepCount.toNat
  locked : q.state = .lockedOut ↔ q.lockoutTimer ≠ .stopped
  below : q.state = .watching → q.breaks < s.breakLimit
  reached : q.state = .lockedOut → q.breaks = s.breakLimit
  cleared : q.state = .session → q.breaks = 0

/-- What the checks of the profile give the recognizer: F is not 0 and no key has one step (07 Table 7-4). -/
def Bounded (s : State) : Prop := 0 < s.breakLimit ∧ ∀ k : Fin 4, (s.key k).stepCount.toNat ≠ 1

section Recognizer

variable {s t u : State} {p : Port} {q : Sqr}

theorem ProfileLaw.bounded (h : ProfileLaw s) (hstage : s.stage = .operating) : Bounded s := by
  obtain ⟨-, -, -, -, hkeys, -, htimers⟩ := h.legal (.inr hstage)
  refine ⟨?_, fun k hone => checkKeys_eq_none.mp hkeys k (.inl hone)⟩
  by_contra hzero
  have hnot : ¬ TimersRanged s.active 0#16 := fun hr => hzero hr.2.1.1
  rw [checkTimers_of_not_ranged hnot] at htimers
  cases htimers

theorem sqrFits_congr (h : t.active = s.active) : SqrFits t q ↔ SqrFits s q := by
  have hkey (k : Fin 4) : t.key k = s.key k := by rw [State.key, State.key, h]
  have hlimit : t.breakLimit = s.breakLimit := by rw [State.breakLimit, State.breakLimit, h]
  constructor <;> rintro ⟨hquiet, htimed, hshort, hlocked, hbelow, hreached, hcleared⟩
  · simp only [hkey, hlimit] at hshort hbelow hreached
    exact ⟨hquiet, htimed, hshort, hlocked, hbelow, hreached, hcleared⟩
  · simp only [← hkey, ← hlimit] at hshort hbelow hreached
    exact ⟨hquiet, htimed, hshort, hlocked, hbelow, hreached, hcleared⟩

theorem SqrFits.fresh (h : Bounded s) : SqrFits s Sqr.fresh where
  quiet hne := absurd rfl hne
  timed := iff_of_false (by decide) (by decide)
  short k hk := absurd (fresh_progress k) hk
  locked := by decide
  below _ := h.1
  reached hlocked := SqrState.noConfusion hlocked
  cleared _ := rfl

theorem recognizerLaw_iff : RecognizerLaw s ↔
    ∀ p, (s.stage = .operating → SqrFits s (s.sqr.get p)) ∧ (s.stage ≠ .operating → s.sqr.get p = Sqr.fresh) := by
  rw [RecognizerLaw, onBoth_iff]
  refine forall_congr' fun p => ⟨fun h => ?_, fun h => ?_⟩
  · obtain ⟨hquiet, htimed, hshort, hlocked, hbelow, hreached, hcleared, hfresh⟩ := h
    exact ⟨fun hs => ⟨hquiet, htimed, hshort, hlocked, hbelow hs, hreached, hcleared⟩, hfresh⟩
  · by_cases hs : s.stage = .operating
    · obtain ⟨hquiet, htimed, hshort, hlocked, hbelow, hreached, hcleared⟩ := h.1 hs
      exact ⟨hquiet, htimed, hshort, hlocked, fun _ => hbelow, hreached, hcleared, h.2⟩
    · exact recognizerLawOf_fresh (h.2 hs) fun hop => absurd hop hs

/-- The recognizers stand as they did, and the stage too, or READY rises. -/
theorem RecognizerLaw.of_sqr (h : RecognizerLaw s) (ht : ProfileLaw t) (hsqr : t.sqr = s.sqr)
    (hactive : s.stage = .operating → t.active = s.active) (hstage : t.stage = s.stage ∨ s.stage ≠ .operating) :
    RecognizerLaw t := by
  rw [recognizerLaw_iff] at h
  rw [recognizerLaw_iff, hsqr]
  intro p
  obtain ⟨hfits, hfresh⟩ := h p
  by_cases hop : s.stage = .operating
  · have hsame := hstage.resolve_right (not_not_intro hop)
    exact ⟨fun _ => (sqrFits_congr (hactive hop)).mpr (hfits hop), fun hne => absurd (hsame.trans hop) hne⟩
  · rw [hfresh hop]
    exact ⟨fun htop => .fresh (ht.bounded htop), fun _ => rfl⟩

theorem Calm.recognizerLaw (k : Calm s t) (h : RecognizerLaw s) (ht : ProfileLaw t) : RecognizerLaw t := by
  refine h.of_sqr ht k.sqr (fun _ => k.active) ?_
  obtain ⟨hstage, -⟩ | ⟨hstage, -⟩ := k.rise
  · exact .inl hstage
  · by_cases hop : s.stage = .operating
    · exact .inl (hstage.trans hop.symm)
    · exact .inr hop

/-- t keeps the profile and the stage of s, and each recognizer keeps its law or is as at start-up. -/
structure Recognizes (s t : State) : Prop where
  profile : t.profile = s.profile
  stage : t.stage = s.stage
  fits : Bounded s → ∀ p, SqrFits s (s.sqr.get p) → SqrFits s (t.sqr.get p)
  fresh : s.stage ≠ .operating → ∀ p, s.sqr.get p = Sqr.fresh → t.sqr.get p = Sqr.fresh

namespace Recognizes

theorem of_sqr (hprofile : t.profile = s.profile) (hstage : t.stage = s.stage) (hsqr : t.sqr = s.sqr) :
    Recognizes s t := ⟨hprofile, hstage, by rw [hsqr]; exact fun _ _ => id, by rw [hsqr]; exact fun _ _ => id⟩

theorem active (h : Recognizes s t) : t.active = s.active := congrArg (·.getD noProfile) h.profile

theorem trans (h : Recognizes s t) (k : Recognizes t u) : Recognizes s u where
  profile := k.profile.trans h.profile
  stage := k.stage.trans h.stage
  fits hb p hs := by
    have hbound : Bounded t := by
      simp only [Bounded, State.key, State.breakLimit, h.active]
      exact hb
    exact (sqrFits_congr h.active).mp (k.fits hbound p ((sqrFits_congr h.active).mpr (h.fits hb p hs)))
  fresh hs p hp := k.fresh (by rwa [h.stage]) p (h.fresh hs p hp)

theorem calm (h : Calm s t) (hstage : t.stage = s.stage) : Recognizes s t := .of_sqr h.profile hstage h.sqr

theorem setSqr (hready : s.stage = .operating ∨ q = Sqr.fresh)
    (hfits : Bounded s → SqrFits s (s.sqr.get p) → SqrFits s q) : Recognizes s (s.setSqr p q) where
  profile := rfl
  stage := rfl
  fits hb r := by
    rw [setSqr_sqr, PerPort_get_set]
    split
    · next hr => exact hr ▸ hfits hb
    · exact id
  fresh hs r := by
    rw [setSqr_sqr, PerPort_get_set]
    split
    · exact fun _ => hready.resolve_left hs
    · exact id

theorem law (h : Recognizes s t) (hs : ProfileLaw s) (hlaw : RecognizerLaw s) : RecognizerLaw t := by
  rw [recognizerLaw_iff] at hlaw
  rw [recognizerLaw_iff, h.stage]
  exact fun p => ⟨fun hop => (sqrFits_congr h.active).mpr (h.fits (hs.bounded hop) p ((hlaw p).1 hop)),
    fun hne => h.fresh hne p ((hlaw p).2 hne)⟩

end Recognizes

end Recognizer

/-! ### An observed write and the timers (02 R29 to R36) -/

section Observed

variable {s : State} {p : Port} {q : Sqr}

theorem noProgress_getElem (k : Fin 4) : noProgress[k] = 0 := fresh_progress k

theorem progress_ne_iff {v : Vector Nat 4} : v ≠ noProgress ↔ ∃ k : Fin 4, v[k] ≠ 0 := by
  rw [Ne, ← not_forall]
  refine not_congr ⟨fun h k => by rw [h]; exact noProgress_getElem k, fun h => ?_⟩
  exact Vector.ext fun i hi => (h ⟨i, hi⟩).trans (noProgress_getElem ⟨i, hi⟩).symm

theorem newProgress_ne_zero_iff (k : Key) (n : Nat) (x : Addr) (d : Word) :
    newProgress k n x d ≠ 0 ↔ keyAdvances k n x d = true := by
  unfold newProgress keyAdvances
  split <;> (try split) <;> (try split) <;> simp_all

/-- A key that does not complete stays below its step count, since no key has one step. -/
theorem newProgress_lt {k : Key} {n : Nat} {x : Addr} {d : Word} (hcompletes : ¬ keyCompletes k n x d = true)
    (hone : k.stepCount.toNat ≠ 1) (hn : n ≠ 0 → n < k.stepCount.toNat) (hne : newProgress k n x d ≠ 0) :
    newProgress k n x d < k.stepCount.toNat := by
  unfold newProgress at hne ⊢
  split at hne
  case isFalse => exact absurd rfl hne
  next henabled =>
  have hpos : k.stepCount.toNat ≠ 0 := fun h0 => by
    have hzero : k.stepCount = 0#4 := BitVec.eq_of_toNat_eq h0
    simp [keyEnabled, hzero] at henabled
  rw [if_pos henabled]
  split at hne
  · next hmatch =>
    rw [if_pos hmatch]
    have hlast : n + 1 ≠ k.stepCount.toNat := fun heq => hcompletes (by simp [keyCompletes, henabled, hmatch, heq])
    by_cases hzero : n = 0
    · omega
    · have := hn hzero
      omega
  split at hne
  · next hmatch hfirst =>
    rw [if_neg hmatch, if_pos hfirst]
    omega
  · exact absurd rfl hne

theorem movedSqr_timed (x : Addr) (d : Word) :
    (movedSqr s q x d).stepTimer ≠ .stopped ↔ (movedSqr s q x d).progress ≠ noProgress := by
  have hadvance : allKeys.any (fun k => keyAdvances (s.key k) q.progress[k] x d) = true ↔
      movedProgress s q x d ≠ noProgress := by
    simp only [progress_ne_iff, movedProgress_getElem, newProgress_ne_zero_iff, List.any_eq_true, mem_allKeys,
      true_and]
  change stepTimerAfter s _ ≠ .stopped ↔ movedProgress s q x d ≠ noProgress
  rw [← hadvance, stepTimerAfter]
  split
  · next h => exact iff_of_true nofun h
  · next h => exact iff_of_false (fun hne => hne rfl) h

/-- A write that completes no key leaves a WATCHING recognizer in its law. -/
theorem SqrFits.moved (hb : Bounded s) (h : SqrFits s q) (hwatch : q.state = .watching) {x : Addr} {d : Word}
    (hnone : s.completing q x d = none) : SqrFits s (movedSqr s q x d) where
  quiet hne := absurd hwatch hne
  timed := movedSqr_timed x d
  short k := by
    change (movedProgress s q x d)[k] ≠ 0 → (movedProgress s q x d)[k] < _
    rw [movedProgress_getElem]
    exact newProgress_lt (List.find?_eq_none.mp hnone k (mem_allKeys k)) (hb.2 k) (h.short k)
  locked := h.locked
  below := h.below
  reached := h.reached
  cleared := h.cleared

theorem SqrFits.clearedSqr (h : SqrFits s q) : SqrFits s (clearedSqr q) where
  quiet _ := ⟨rfl, rfl⟩
  timed := iff_of_false (fun hne => hne rfl) (fun hne => hne rfl)
  short k hk := absurd (noProgress_getElem k) hk
  locked := h.locked
  below := h.below
  reached := h.reached
  cleared := h.cleared

theorem SqrFits.sessionSqr : SqrFits s sessionSqr where
  quiet _ := ⟨rfl, rfl⟩
  timed := iff_of_false (by decide) (by decide)
  short k hk := absurd (noProgress_getElem k) hk
  locked := by decide
  below h := SqrState.noConfusion h
  reached h := SqrState.noConfusion h
  cleared _ := rfl

theorem SqrFits.lockedSqr {r : Sqr} (h : r.breaks = s.breakLimit) : SqrFits s (lockedSqr s r) where
  quiet _ := ⟨rfl, rfl⟩
  timed := iff_of_false (fun hne => hne rfl) (fun hne => hne rfl)
  short k hk := absurd (noProgress_getElem k) hk
  locked := iff_of_true rfl nofun
  below h := SqrState.noConfusion h
  reached _ := h
  cleared h := SqrState.noConfusion h

/-- One more break, below F. -/
theorem SqrFits.broken (h : SqrFits s q) (hwatch : q.state = .watching) (hne : q.breaks + 1 ≠ s.breakLimit) :
    SqrFits s { q with breaks := q.breaks + 1 } where
  quiet := h.quiet
  timed := h.timed
  short := h.short
  locked := h.locked
  below _ := by have := h.below hwatch; change q.breaks + 1 < _; omega
  reached hl := SqrState.noConfusion (hwatch.symm.trans hl)
  cleared hc := SqrState.noConfusion (hwatch.symm.trans hc)

theorem raise_recognizes (n : EventName) (who : Concerned) (w : Option (Fin 16)) (hi lo : Word) (s : State) :
    Recognizes s (raise n who w hi lo s) := .of_sqr (by rw [raise_frame]) (by rw [raise_frame]) (by rw [raise_frame])

/-- A break counted on a WATCHING recognizer, whose keys have moved or been cleared. -/
theorem countBreak_recognizes (hready : s.stage = .operating) {r : Sqr} (hwatch : r.state = .watching)
    (hfits : Bounded s → SqrFits s (s.sqr.get p) → SqrFits s r) (cause : Word) :
    Recognizes s (countBreak p cause r s) := by
  by_cases hlimit : r.breaks + 1 = s.breakLimit
  · rw [countBreak_of_eq_limit hlimit]
    exact (Recognizes.setSqr (.inl hready) fun _ _ => .lockedSqr hlimit).trans (raise_recognizes ..)
  · rw [countBreak_of_ne_limit hlimit]
    exact .setSqr (.inl hready) fun hb hs => (hfits hb hs).broken hwatch hlimit

theorem observe_recognizes (p : Port) (x : Addr) (d : Word) (s : State) : Recognizes s (observe p x d s) := by
  unfold observe
  split
  case isFalse => exact .of_sqr rfl rfl rfl
  next h =>
  obtain ⟨hwatch, hready, -⟩ := observes_iff.mp h
  cases hk : s.completing (s.sqr.get p) x d with
  | some k =>
    rw [takeWrite_of_completing hk, completeKey, openSession]
    have hset : Recognizes s (s.setSqr p sessionSqr) := .setSqr (.inl hready) fun _ _ => .sessionSqr
    have hopen : Recognizes (s.setSqr p sessionSqr)
        ((s.setSqr p sessionSqr).setSession p (some (newSession (s.setSqr p sessionSqr) k))) := .of_sqr rfl rfl rfl
    exact (hset.trans hopen).trans (raise_recognizes ..)
  | none =>
    have hmoved (hb : Bounded s) (hs : SqrFits s (s.sqr.get p)) := hs.moved hb hwatch hk
    by_cases hbreak : allKeys.any (fun k => keyBroken (s.key k) (s.sqr.get p).progress[k] x d) = true
    · rw [takeWrite_of_break hk hbreak]
      exact countBreak_recognizes (r := movedSqr s (s.sqr.get p) x d) hready hwatch hmoved _
    · rw [takeWrite_of_no_break hk hbreak]
      exact .setSqr (.inl hready) hmoved

theorem fenceSqr_recognizes (p : Port) (hready : s.stage = .operating) : Recognizes s (fenceSqr p s) := by
  unfold fenceSqr
  split
  · exact .setSqr (.inl hready) fun _ hs => hs.clearedSqr
  · exact .of_sqr rfl rfl rfl

end Observed

end Sys2Proof.Machine

/-! SUPPORT. The law of the recognizers over the ends of sessions, the command words, the client cycles and the fence,
and so over every effect. -/

namespace Sys2Proof.Machine

/-! ### Commands and the ends of sessions (chapter 3) -/

section Commands

variable {s : State} {p : Port} {x : Session}

theorem endSession_recognizes (p : Port) (c : SessionCause) (s : State) : Recognizes s (endSession p c s) := by
  cases hy : s.sessions.get p with
  | none =>
    rw [endSession_of_none hy]
    exact .of_sqr rfl rfl rfl
  | some y =>
    rw [endSession_of_some hy]
    obtain ⟨hframe, -⟩ := closeSession_ended p c s
    have hset : Recognizes s (s.setSqr p Sqr.fresh) := .setSqr (.inr rfl) fun hb _ => .fresh hb
    exact hset.trans (.of_sqr (congrArg State.profile hframe :) (congrArg State.stage hframe :)
      (congrArg State.sqr hframe :))

theorem sqr_closed : Closed fun s t : State => t.sqr = s.sqr where
  refl _ := rfl
  trans h k := k.trans h
  raised s _ _ who w hi lo := by rw [raise_frame]
  quiet s t h := (congrArg State.sqr h :)
  txn _ _ _ _ := rfl
  session _ _ _ _ _ _ _ := rfl

theorem respond_sqr (v : Byte) (r : Result) (more : List Word) : (respond p v r more s).sqr = s.sqr := by
  rw [respond_frame]

theorem scOpen_sqr (operand : Byte) : (scOpen p x operand s).sqr = s.sqr := by
  unfold scOpen
  split
  · exact respond_sqr ..
  · dsimp only
    split
    · rw [openLeaseFor, raise_frame]
      exact respond_sqr ..
    · exact respond_sqr ..

theorem scClose_sqr (operand : Byte) : (scClose p operand s).sqr = s.sqr := by
  unfold scClose
  split
  · exact respond_sqr ..
  · split
    · rw [endLease_frame]
      exact respond_sqr ..
    · exact respond_sqr ..

theorem scBegin_sqr : (scBegin p x s).sqr = s.sqr := by
  unfold scBegin
  dsimp only
  split
  · rw [raise_frame]
    exact respond_sqr ..
  · exact respond_sqr ..

theorem scCommit_sqr : (scCommit p x s).sqr = s.sqr := by
  unfold scCommit
  dsimp only
  split
  · exact (sqr_closed.endTxn ..).trans (respond_sqr ..)
  split
  · exact ((queueTxn_calm.trans setAwaited_calm).trans takeWhenTwo_calm).sqr.trans (respond_sqr ..)
  · exact respond_sqr ..

theorem scAbort_sqr : (scAbort p x s).sqr = s.sqr := by
  unfold scAbort
  dsimp only
  split
  · split
    · exact (sqr_closed.stopEngine ..).trans (respond_sqr ..)
    · exact (sqr_closed.endTxn ..).trans (respond_sqr ..)
  · exact respond_sqr ..

theorem scNextEvent_sqr : (scNextEvent p x s).sqr = s.sqr := by
  unfold scNextEvent
  split
  · exact respond_sqr ..
  · split <;> exact respond_sqr ..

/-- A command word but END leaves every recognizer as it is; END clears that of its port. -/
theorem performVerb_recognizes (command : Word) (h : Steady s (performVerb p x command s)) :
    Recognizes s (performVerb p x command s) := by
  have hstay (hsqr : (performVerb p x command s).sqr = s.sqr) : Recognizes s (performVerb p x command s) :=
    .of_sqr h.profile h.stage hsqr
  unfold performVerb at hstay ⊢
  dsimp only at hstay ⊢
  split at hstay
  · exact hstay (scOpen_sqr _)
  · exact hstay (scClose_sqr _)
  · exact hstay scBegin_sqr
  · exact hstay scCommit_sqr
  · exact hstay scAbort_sqr
  · exact hstay (respond_sqr ..)
  · exact hstay scNextEvent_sqr
  · exact hstay (respond_sqr ..)
  · exact endSession_recognizes ..
  · exact hstay (respond_sqr ..)

theorem performCommand_recognizes (p : Port) (x : Session) (command : Word) (s : State) :
    Recognizes s (performCommand p x command s) := by
  have hsteady := performCommand_steady p x command s
  by_cases hspace : freeWords x < verbNeed (verbByte command)
  · refine .of_sqr hsteady.profile hsteady.stage ?_
    rw [performCommand, if_pos hspace, overrunCommand, raise_frame]
    rfl
  · rw [performCommand, if_neg hspace] at hsteady ⊢
    exact performVerb_recognizes command hsteady

end Commands

/-! ### Client cycles (chapters 1 and 10) -/

section Cycles

variable {s : State} {p : Port}

theorem Operates.recognizes {t : State} (h : Operates s t) (hsqr : t.sqr = s.sqr) : Recognizes s t :=
  .of_sqr h.profile h.stage hsqr

theorem spendAt_recognizes (p : Port) (x : Addr) (s : State) : Recognizes s (spendAt p x s) :=
  (spendAt_operates p s x).recognizes (by rw [spendAt_frame])

theorem settleWrite_recognizes (p : Port) (x : Addr) (d : Word) (s : State) : Recognizes s (settleWrite p x d s) :=
  (observe_recognizes p x d s).trans (.of_sqr rfl rfl rfl)

theorem stageWrite_sqr (w : Fin 16) (x : Addr) (d : Word) : (stageWrite p w x d s).sqr = s.sqr := by
  unfold stageWrite
  split
  · rfl
  split
  · rw [raiseAccess, raise_frame]
  split
  · rw [spendUnit_frame]
    rfl
  split
  · rw [overflowTxn, raise_frame]
    rfl
  split
  · rw [overflowTxn, raise_frame]
    rfl
  · rw [spendUnit_frame]
    rfl

theorem applyWrite_recognizes (p : Port) (x : Addr) (d : Word) (course : WriteCourse) (s : State) :
    Recognizes s (applyWrite p x d course s) := by
  have htold (n : EventName) (w : Option (Fin 16)) : Recognizes s (settleWrite p x d (raiseAccess n p w x s)) :=
    (raise_recognizes ..).trans (settleWrite_recognizes ..)
  cases course with
  | reserved => exact htold ..
  | portDenied w => exact htold ..
  | fenced => exact .of_sqr rfl rfl rfl
  | denied w => exact htold ..
  | conflict w => exact htold ..
  | stage w =>
    exact ((stageWrite_operates p s w x d).recognizes (stageWrite_sqr ..)).trans (settleWrite_recognizes ..)
  | forward => exact .of_sqr rfl rfl rfl

theorem applyRead_recognizes (p : Port) (x : Addr) (course : ReadCourse) (s : State) :
    Recognizes s (applyRead p x course s) := by
  cases course <;> exact .of_sqr rfl rfl rfl

theorem takeCommandAccess_recognizes (p : Port) (y : Session) (kind : AccessKind) (s : State) :
    Recognizes s (takeCommandAccess p y kind s) := by
  cases kind with
  | read => exact .of_sqr rfl rfl rfl
  | write d => exact (performCommand_recognizes p y d s).trans (.of_sqr rfl rfl rfl)

theorem settleCycle_recognizes (p : Port) (kind : AccessKind) (x : Addr) (s : State) :
    Recognizes s (settleCycle p kind x s) := by
  unfold settleCycle
  split
  · exact .of_sqr rfl rfl rfl
  split
  case isTrue =>
    unfold decideAccess
    dsimp only
    refine ((restartIdle_operates p s).recognizes (by rw [restartIdle_frame])).trans ?_
    split
    · exact takeCommandAccess_recognizes ..
    · cases kind with
      | read => exact applyRead_recognizes ..
      | write d => exact applyWrite_recognizes ..
  · exact .of_sqr rfl rfl rfl

theorem useGrant_recognizes (r : Requester) (q : Request) (s : State) : Recognizes s (useGrant r q (grantTo r s)) := by
  have hgrant : Recognizes s (grantTo r s) := by cases r <;> exact .of_sqr rfl rfl rfl
  refine hgrant.trans ?_
  cases r with
  | engine => exact .of_sqr rfl rfl rfl
  | client p =>
    change Recognizes _ (useClientGrant p q _)
    unfold useClientGrant
    split
    · split
      · exact .of_sqr rfl rfl rfl
      · exact .of_sqr rfl rfl rfl
    · split
      · exact .of_sqr rfl rfl rfl
      · exact applyWrite_recognizes ..

end Cycles

/-! ### The fence (chapter 8) -/

theorem enterFence_recognizes {s : State} (hready : s.stage = .operating) : Recognizes s (enterFence s) := by
  unfold enterFence
  dsimp only
  have hfenced : Recognizes s { s with fence := .fenced } := .of_sqr rfl rfl rfl
  have hentered : Recognizes s (raise .fenceEntered .part none 0#16 0#16 { s with fence := .fenced }) :=
    hfenced.trans (raise_recognizes ..)
  have hclosed := (hentered.trans (endSession_recognizes .a .fence _)).trans (endSession_recognizes .b .fence _)
  have hfirst := hclosed.trans (fenceSqr_recognizes .a (hclosed.stage.trans hready))
  have hboth := hfirst.trans (fenceSqr_recognizes .b (hfirst.stage.trans hready))
  refine (hboth.trans ((operates_closed.endQueued _ .fenced).recognizes (sqr_closed.endQueued _ .fenced))).trans ?_
  refine (fenceEngine_operates _).recognizes ?_
  unfold fenceEngine
  split
  · exact sqr_closed.stopEngine ..
  · rfl

/-! ### Every effect -/

theorem recognizerLaw_of_fresh {t : State} (h : ProfileLaw t) (hsqr : t.sqr = { a := Sqr.fresh, b := Sqr.fresh }) :
    RecognizerLaw t := by
  rw [recognizerLaw_iff, hsqr]
  intro p
  have hp : (PerPort.mk Sqr.fresh Sqr.fresh).get p = Sqr.fresh := by cases p <;> rfl
  rw [hp]
  exact ⟨fun hs => .fresh (h.bounded hs), fun _ => rfl⟩

theorem startUp_sqr (s : State) : (startUp s).sqr = { a := Sqr.fresh, b := Sqr.fresh } := by
  unfold startUp
  dsimp only
  split
  · exact ((raise_calm (installProfile bypassProfile .bypass (initialise s)) .bypass .part none 0#16 0#16).trans
      (calm_closed.readyRise _)).sqr
  split
  · rfl
  · rfl

theorem takeProfileWord_sqr (w : Word) (s : State) : (takeProfileWord w s).sqr = s.sqr := by
  unfold takeProfileWord
  dsimp only
  split
  · rfl
  unfold concludeProfile
  split
  · dsimp only
    split
    · exact (calm_closed.readyRise _).sqr
    · rfl
  · next reason item _ =>
    exact ((raise_calm (installProfile fallbackProfile (.rejected reason)
      { s with candidate := [], inFlight := none }) .profileRejected .part none ((rejectCode reason).setWidth 16)
      item).trans (calm_closed.readyRise _)).sqr

/-- Every effect keeps the law of the recognizers. -/
theorem Effect.recognizerLaw {s t : State} (h : Effect s t) (hlaw : RecognizerLaw s) (hs : ProfileLaw s)
    (ht : ProfileLaw t) : RecognizerLaw t := by
  have kept {u : State} (k : Recognizes s u) : RecognizerLaw u := k.law hs hlaw
  have calm {u : State} (k : Calm s u) (hu : ProfileLaw u) : RecognizerLaw u := k.recognizerLaw hlaw hu
  cases h with
  | startsUp => exact recognizerLaw_of_fresh ht (startUp_sqr _)
  | heldInReset | resetnFalls | supplyLost => exact recognizerLaw_of_fresh ht rfl
  | fenceEntered ready =>
    have hfallen : Recognizes s { s with pwrgood := false } := .of_sqr rfl rfl rfl
    exact kept (hfallen.trans (enterFence_recognizes ready))
  | fenceLeft => exact kept (.of_sqr (by rw [leaveFence, raise_frame]) (by rw [leaveFence, raise_frame])
      (by rw [leaveFence, raise_frame]))
  | waitEnds waits =>
    have hbefore : s.stage ≠ .operating := by rw [waits]; nofun
    exact hlaw.of_sqr ht rfl (fun hop => absurd hop hbefore) (.inr hbefore)
  | profileWord w x stage =>
    have hbefore : s.stage ≠ .operating := by rw [stage]; nofun
    exact hlaw.of_sqr ht (takeProfileWord_sqr w s) (fun hop => absurd hop hbefore) (.inr hbefore)
  | headerWord w => exact calm ((setInFlight_calm s _).trans (calm_closed.takeHeaderWord s w)) ht
  | checkWord w => exact calm ((setInFlight_calm s _).trans (calm_closed.takeCheckWord s w)) ht
  | loadWord w => exact calm ((setInFlight_calm s _).trans (calm_closed.takeLoadWord s w)) ht
  | granted r q => exact kept (useGrant_recognizes r q s)
  | writeDone p x d w =>
    have hwritten : Recognizes s ((s.writeWord x w).setInFlight none) := .of_sqr rfl rfl rfl
    exact kept ((hwritten.trans (spendAt_recognizes ..)).trans (settleWrite_recognizes ..))
  | engineWrote w x d v =>
    have hwritten : Calm s ((s.writeWord x v).setInFlight none) := .of_fields rfl rfl rfl rfl rfl rfl rfl rfl rfl
    exact calm (hwritten.trans ((calm_closed.advanceNumber _ w).trans (calm_closed.afterWrite _ w))) ht
  | engineVerified w x v => exact calm ((setInFlight_calm s _).trans (calm_closed.afterReadBack _ w v)) ht
  | engineTakes => exact calm (calm_closed.engineTake s) ht
  | cycleTaken p kind x gone =>
    have htaken : Recognizes s (s.setPort p (heldPort kind x gone (s.ports.get p))) := .of_sqr rfl rfl rfl
    exact kept (htaken.trans (settleCycle_recognizes ..))
  | stepTimerEnds p watching runs =>
    have hready : s.stage = .operating := by
      by_contra hbefore
      rw [(recognizerLaw_iff.mp hlaw p).2 hbefore] at runs
      exact runs rfl
    split
    · exact kept (countBreak_recognizes (r := clearedSqr (s.sqr.get p)) hready watching (fun _ hq => hq.clearedSqr) _)
    · exact kept (.setSqr (.inl hready) fun _ hq => hq.clearedSqr)
  | lockoutEnds p => exact kept ((Recognizes.setSqr (.inr rfl) fun hb _ => .fresh hb).trans (raise_recognizes ..))
  | idleTimerEnds p => exact kept (endSession_recognizes ..)
  | lifetimeEnds w => exact kept ((endLease_operates ..).recognizes (by rw [endLease_frame]))
  | arrives n rest =>
    rw [takeNotice_frame]
    exact kept (.of_sqr rfl rfl rfl)
  | same | resetnMoves | pwrgoodMoves | readAnswered | holdoffEnds | cycleAbandoned | endingExit =>
    exact kept (.of_sqr rfl rfl rfl)

/-- Settles O8: every effect keeps the law of the recognizers, whose bounds come from the profile's checks. -/
theorem recognizerLawIsKept : Obligations.RecognizerLawIsKept := by
  intro s t
  refine law_of_step (Law := fun s => StagingLaws s ∧ EngineLaws s ∧ RecognizerLaw s) (fun _ _ h => h)
    (fun _ _ ⟨_, _, h⟩ _ => h) fun s t hlaws heffect => ?_
  obtain ⟨⟨hprofile, -⟩, ⟨hword, hcourse, -⟩, hlaw⟩ := hlaws
  exact heffect.recognizerLaw hlaw hprofile (heffect.profileLaw hprofile hword hcourse)

end Sys2Proof.Machine

/-! SUPPORT. The writes that a port's transaction stages, BEGIN, and the end of a session, over the laws (05 R85 to
R101). -/

namespace Sys2Proof.Machine

/-! ### A staged write (05 R90 to R93) -/

section Staged

variable {s : State} {p : Port} {w : Fin 16} {x : Addr} {d : Word}

/-- What the course of a stage-bound write gives: the window of its address and a transaction that stages. -/
structure Staging (s : State) (p : Port) (w : Fin 16) (x : Addr) : Prop where
  ready : s.stage = .operating
  window : s.windowOf x = some w
  enabled : (s.window w).enable = true
  transactional : (s.window w).transactional = true
  stages : stages (s.txns.get p).state = true

theorem Staging.of_bound (hready : s.stage = .operating) (hw : s.windowOf x = some w) (hb : s.stageBound p w = true) :
    Staging s p w x := by
  obtain ⟨henable, htrans, hstages⟩ := stageBound_iff.mp hb
  exact ⟨hready, hw, henable, htrans, hstages⟩

theorem not_inEngine_of_stages {t : TxnState} (h : stages t = true) : inEngine t = false := by
  revert h
  cases t <;> decide

theorem ne_queued_of_stages {t : TxnState} (h : stages t = true) : t ≠ .queued := by
  rintro rfl
  cases h

theorem ne_none_of_stages {t : TxnState} (h : stages t = true) : t ≠ .none := by
  rintro rfl
  cases h

theorem overwriteEntry_owner (o : Owner) (e : Entry) : (overwriteEntry o x d e).owner = e.owner := by
  unfold overwriteEntry
  split <;> rfl

theorem overwriteEntry_addr (o : Owner) (e : Entry) : (overwriteEntry o x d e).addr = e.addr := by
  unfold overwriteEntry
  split <;> rfl

theorem overwriteEntry_position (o : Owner) (e : Entry) : (overwriteEntry o x d e).position = e.position := by
  unfold overwriteEntry
  split <;> rfl

theorem overwriteStaged_owned (o : Owner) :
    (overwriteStaged p x d s).owned o = (s.owned o).map (overwriteEntry (.port p) x d) := by
  change (s.sb.map (overwriteEntry (.port p) x d)).filter _ = _
  rw [List.filter_map]
  congr 2
  funext e
  rw [Function.comp_apply, overwriteEntry_owner]

theorem overwriteStaged_owned_other {o : Owner} (ho : o ≠ .port p) :
    (overwriteStaged p x d s).owned o = s.owned o := by
  rw [overwriteStaged_owned]
  refine (List.map_congr_left fun e he => ?_).trans (List.map_id _)
  exact if_neg fun h => ho ((mem_owned.mp he).2.symm.trans h.1)

/-- An overwrite in place changes no entry's address, position or owner. -/
theorem overwriteStaged_sound (h : Sound s) (hstaging : Staging s p w x) : Sound (overwriteStaged p x d s) := by
  have hport := h.port p
  have hidle := not_current_of_not_inEngine h (not_inEngine_of_stages hstaging.stages)
  have howned : (overwriteStaged p x d s).owned (.port p) = (s.owned (.port p)).map (overwriteEntry (.port p) x d) :=
    overwriteStaged_owned _
  have hlength : ((overwriteStaged p x d s).owned (.port p)).length = (s.owned (.port p)).length := by
    rw [howned, List.length_map]
  have hne : (overwriteStaged p x d s).owned (.port p) ≠ [] ↔ s.owned (.port p) ≠ [] := by
    rw [howned, Ne, List.map_eq_nil_iff]
  have beside : Beside s (overwriteStaged p x d s) p :=
    ⟨rfl, rfl, rfl, rfl, rfl, rfl, fun _ => overwriteStaged_owned_other, fun _ _ => rfl, fun _ _ _ => Iff.rfl,
      fun _ _ => Iff.rfl, hidle⟩
  refine h.beside beside ⟨?positions, ?fits, ?distinct, fun hn => hport.ready (hne.mp hn), ?claims, ?claimed,
    hport.inEngine, hport.state, hport.queued, fun ha => hne.mpr (hport.held ha)⟩ ?_ h.nodup
  case positions =>
    rw [hlength, ← hport.positions, howned, List.map_map]
    exact List.map_congr_left fun e _ => overwriteEntry_position _ e
  case fits =>
    rw [hlength]
    exact hport.fits
  case distinct =>
    rw [howned, List.map_map]
    refine (List.map_congr_left fun e _ => ?_) ▸ hport.distinct
    exact (overwriteEntry_addr _ e).symm
  case claims =>
    intro v hv
    obtain ⟨henable, htrans, e, he, hwindow⟩ := hport.claims v hv
    refine ⟨henable, htrans, _, howned ▸ List.mem_map_of_mem he, ?_⟩
    rw [overwriteEntry_addr]
    exact hwindow
  case claimed =>
    rw [howned]
    intro e he
    obtain ⟨e', he', rfl⟩ := List.mem_map.mp he
    rw [overwriteEntry_addr]
    exact hport.claimed e' he'
  · exact (List.length_map _).trans_le h.room

theorem setClaim_claim (v : Fin 16) (c : Option Port) :
    (s.setClaim w c).claim v = if v = w then c else s.claim v := by
  rw [State.claim, State.setClaim, Fin.getElem_fin, Vector.getElem_set]
  exact if_congr ⟨fun h => Fin.ext h.symm, fun h => congrArg Fin.val h.symm⟩ rfl rfl

theorem eq_otherPort {q : Port} (h : q ≠ p) : q = otherPort p := by
  revert h
  cases p <;> cases q <;> decide

/-- A new entry joins at the next position, and its window is claimed. -/
theorem joinStaged_sound (h : Sound s) (hstaging : Staging s p w x) (hfree : s.claim w ≠ some (otherPort p))
    (hnew : ¬ s.holds (.port p) x = true) (hroom : s.sb.length < Config.stageCapacity)
    (hfits : s.entryCount (.port p) < s.journalEntries) : Sound (joinStaged p w x d s) := by
  have hport := h.port p
  have hidle := not_current_of_not_inEngine h (not_inEngine_of_stages hstaging.stages)
  let e : Entry := { owner := .port p, addr := x, data := d, position := s.entryCount (.port p) }
  have hsb : (joinStaged p w x d s).sb = s.sb ++ [e] := rfl
  have howned : (joinStaged p w x d s).owned (.port p) = s.owned (.port p) ++ [e] := by
    rw [State.owned, hsb, List.filter_append]
    simp [State.owned, e]
  have hother (o : Owner) (ho : o ≠ .port p) : (joinStaged p w x d s).owned o = s.owned o := by
    rw [State.owned, hsb, List.filter_append]
    simp [State.owned, e, ho.symm]
  have hclaim (v : Fin 16) : (joinStaged p w x d s).claim v = if v = w then some p else s.claim v :=
    setClaim_claim (s := joinEntry (.port p) x d s) v (some p)
  have hmine (v : Fin 16) (hv : s.claim v = some p) : (joinStaged p w x d s).claim v = some p := by
    rw [hclaim]
    split
    · rfl
    · exact hv
  have beside : Beside s (joinStaged p w x d s) p := by
    refine ⟨rfl, rfl, rfl, rfl, rfl, rfl, hother, fun _ _ => rfl, fun v q hq => ?_, fun _ _ => Iff.rfl, hidle⟩
    rw [hclaim]
    split
    · next hv =>
      rw [hv]
      refine iff_of_false (fun hp => hq (Option.some.inj hp).symm) fun hc => hfree ?_
      rw [hc, eq_otherPort hq]
    · rfl
  have hcount := entryCount_eq s (.port p)
  refine h.beside beside ⟨?positions, ?fits, ?distinct, fun _ => ⟨hstaging.ready, ne_none_of_stages hstaging.stages⟩,
    ?claims, ?claimed, hport.inEngine, hport.state, hport.queued, fun _ => ?_⟩ ?_ h.nodup
  case positions =>
    rw [howned, List.map_append, hport.positions, List.length_append, List.length_singleton, List.range_succ]
    exact congrArg (fun n => List.range _ ++ [n]) hcount
  case fits =>
    rw [howned, List.length_append, ← hcount]
    exact hfits
  case distinct =>
    rw [howned, List.map_append, List.nodup_append]
    refine ⟨hport.distinct, List.nodup_singleton _, fun y hy z hz hyz => hnew ?_⟩
    obtain ⟨e', he', rfl⟩ := List.mem_map.mp hy
    obtain ⟨hmem, howner⟩ := mem_owned.mp he'
    exact holds_iff.mpr ⟨e', hmem, howner, hyz.trans (List.mem_singleton.mp hz)⟩
  case claims =>
    intro v hv
    rw [howned]
    by_cases hw : v = w
    · subst hw
      exact ⟨hstaging.enabled, hstaging.transactional, e, by simp, hstaging.window⟩
    · rw [hclaim, if_neg hw] at hv
      obtain ⟨henable, htrans, e', he', hwindow⟩ := hport.claims v hv
      exact ⟨henable, htrans, e', List.mem_append_left _ he', hwindow⟩
  case claimed =>
    rw [howned]
    intro e' he'
    obtain he' | he' := List.mem_append.mp he'
    · obtain ⟨v, hv, hc⟩ := hport.claimed e' he'
      exact ⟨v, hv, hmine v hc⟩
    · rw [List.mem_singleton.mp he']
      exact ⟨w, hstaging.window, (hclaim w).trans (if_pos rfl)⟩
  · rw [howned]
    simp
  · rw [hsb, List.length_append]
    exact hroom

theorem overflowTxn_sound (h : Sound s) (hstaging : Staging s p w x) (cause : Word) :
    Sound (overflowTxn p w cause s) := by
  have hset : Sound (setTxnState p .overflowed s) :=
    h.setTxn (not_inEngine_of_stages hstaging.stages) (ne_queued_of_stages hstaging.stages) rfl fun _ => hstaging.ready
  exact hset.aside (raise_aside ..)

theorem stageWrite_sound (h : Sound s) (hstaging : Staging s p w x) : Sound (stageWrite p w x d s) := by
  unfold stageWrite
  split
  · exact h
  split
  · exact h.aside (raise_aside ..)
  next hfree =>
  split
  · exact (overwriteStaged_sound h hstaging).aside (spendUnit_aside ..)
  next hnew =>
  split
  · exact overflowTxn_sound h hstaging _
  next hroom =>
  split
  · exact overflowTxn_sound h hstaging _
  next hfits =>
  exact (joinStaged_sound h hstaging hfree hnew (Nat.not_le.mp hroom) (Nat.not_le.mp hfits)).aside (spendUnit_aside ..)

theorem stageWrite_lawful (h : Lawful s) (hstaging : Staging s p w x) : Lawful (stageWrite p w x d s) := by
  refine ⟨stageWrite_sound h.sound hstaging, h.queue.congr ?_ ?_ ?_⟩ <;> rw [stageWrite_frame]

end Staged

/-! ### BEGIN, the ends of sessions, and the writes of a client (chapters 1 and 3) -/

section Clients

variable {s : State} {p : Port}

/-- A transaction of a port in session is staged only after READY (03 R65). -/
theorem ready_of_stages (h : GuardLaw s) (hstages : stages (s.txns.get p).state = true) : s.stage = .operating := by
  obtain ⟨-, hpairs, hopen⟩ := (guardLaw_iff s).mp h
  exact (hopen p ((hpairs p).2 hstages)).1

theorem applyWrite_lawful (h : Lawful s) (hready : stages (s.txns.get p).state = true → s.stage = .operating)
    {x : Addr} {d : Word} {course : WriteCourse} (hcourse : CourseFits s p x course) :
    Lawful (applyWrite p x d course s) := by
  have htold (n : EventName) (w : Option (Fin 16)) : Lawful (settleWrite p x d (raiseAccess n p w x s)) :=
    h.aside ((raise_aside ..).trans (settleWrite_aside ..))
  cases course with
  | reserved => exact htold ..
  | portDenied w => exact htold ..
  | fenced => exact h.aside ((countAbsorbed_aside s).trans (completeCycle_aside ..))
  | denied w => exact htold ..
  | conflict w => exact htold ..
  | stage w =>
    obtain ⟨hwindow, hbound⟩ := hcourse
    have hop := hready (stages_of_stageBound hbound)
    exact (stageWrite_lawful h (.of_bound hop hwindow hbound)).aside (settleWrite_aside ..)
  | forward => exact h.aside (requestClient_aside ..)

theorem releaseTxn_lawful (h : Lawful s) : Lawful (releaseTxn p s) := by
  unfold releaseTxn
  split
  · next hstages =>
    exact h.endTxn (by decide) (not_current_of_not_inEngine h.sound (not_inEngine_of_stages hstages))
  · exact h.aside (cutLink_aside s p)

theorem endSession_lawful (h : Lawful s) (c : SessionCause) : Lawful (endSession p c s) := by
  unfold endSession
  split
  · have hreleased : Lawful (releaseTxn p (endLeasesOf p (leaseCauseOf c) s)) :=
      releaseTxn_lawful (h.aside (endLeasesOf_aside ..))
    exact hreleased.aside (((setSession_aside ..).trans (setSqr_aside ..)).trans (raise_aside ..))
  · exact h

theorem beginResult_ok {x : Session} (h : s.beginResult p x = .ok) : (s.txns.get p).state = .none := by
  unfold State.beginResult at h
  split at h
  · cases h
  split at h
  · cases h
  split at h
  · cases h
  · next hnone => exact Decidable.not_not.mp hnone

theorem scBegin_lawful (h : Lawful s) (x : Session) : Lawful (scBegin p x s) := by
  have hanswered : Lawful (respond p 0x03#8 (s.beginResult p x) [] s) := h.aside (respond_aside ..)
  unfold scBegin
  dsimp only
  split
  · next hok =>
    have hnone : ((respond p 0x03#8 (s.beginResult p x) [] s).txns.get p).state = .none :=
      ((respond_aside s p _ _ _).state p).trans (beginResult_ok hok)
    have hsound := hanswered.sound.setTxn (p := p) (t := Txn.begun) (by rw [hnone]; rfl) (by rw [hnone]; nofun) rfl
      fun hne => ((hanswered.sound.port p).ready hne).1
    exact Lawful.aside ⟨hsound, hanswered.queue.congr rfl rfl rfl⟩ (raise_aside ..)
  · exact hanswered

end Clients

end Sys2Proof.Machine

/-! SUPPORT. The word in hand (06 R114, R118, R121): the steps that change nothing of the laws but it, its request and
its access, and the placing of a word of the course. -/

namespace Sys2Proof.Machine

/-! ### Steps of the word in hand -/

/-- From s to t nothing has changed that the laws speak of but the word in hand, its request and what is in flight. -/
structure Handles (s t : State) : Prop where
  profile : t.profile = s.profile
  stage : t.stage = s.stage
  recovery : t.recovery = s.recovery
  sb : t.sb = s.sb
  txns : t.txns = s.txns
  claims : t.claims = s.claims
  queue : t.commitQueue = s.commitQueue
  state : t.engine.state = s.engine.state
  current : t.engine.current = s.engine.current

namespace Handles

variable {s t u : State}

theorem refl (s : State) : Handles s s := ⟨rfl, rfl, rfl, rfl, rfl, rfl, rfl, rfl, rfl⟩

theorem trans (h : Handles s t) (k : Handles t u) : Handles s u where
  profile := k.profile.trans h.profile
  stage := k.stage.trans h.stage
  recovery := k.recovery.trans h.recovery
  sb := k.sb.trans h.sb
  txns := k.txns.trans h.txns
  claims := k.claims.trans h.claims
  queue := k.queue.trans h.queue
  state := k.state.trans h.state
  current := k.current.trans h.current

theorem active (h : Handles s t) : t.active = s.active := congrArg (·.getD noProfile) h.profile

theorem owned (h : Handles s t) (o : Owner) : t.owned o = s.owned o := by
  rw [State.owned, State.owned, h.sb]

theorem sameTxn (h : Handles s t) (p : Port) : SameTxn s t p :=
  ⟨h.owned _, by rw [h.txns], fun w => by rw [State.claim, State.claim, h.claims], by rw [h.queue]⟩

theorem sameWork (h : Handles s t) : SameWork s t := by
  refine ⟨h.active, h.current, fun o _ => h.owned o, ?_⟩
  rw [State.engineNumber, State.engineNumber, h.current, h.txns]

theorem grounded (h : Handles s t) (k : Grounded s) : Grounded t where
  profile := k.profile.congr h.profile h.stage
  port p := (k.port p).congr (h.sameTxn p) h.active (fun hs => h.stage.trans hs) (by rw [h.current]) fun _ => h.state
  recovery := k.recovery.congr h.active h.stage h.state h.current (h.owned _)
  room := by rw [h.sb]; exact k.room
  nodup := by rw [h.queue]; exact k.nodup
  course := k.course.congr h.stage h.recovery h.state h.current
  slot := k.slot.congr h.active h.stage h.recovery (h.owned _)

theorem wordFits (h : Handles s t) {w : WordInHand} (hw : WordFits s w) : WordFits t w :=
  hw.congr h.sameWork h.stage h.state

theorem queueLaw (h : Handles s t) (hq : QueueLaw s) : QueueLaw t := hq.congr h.queue h.state h.stage

end Handles

/-! ### The journal area (06 R111, 07 R141) -/

section Journal

variable {s : State}

theorem journalAddr_toNat (h : ProfileLaw s) (hstage : s.stage = .recovery ∨ s.stage = .operating)
    (hj : s.journalEntries ≠ 0) {n : Nat} (hn : n ≤ 7 + 3 * s.journalEntries) :
    (s.journalAddr n).toNat = s.active.journalBase.toNat + n := by
  obtain ⟨-, -, hplace, -⟩ := h.legal hstage
  have hcapacity : s.active.journalCapacity ≠ 0#16 := fun h0 => hj (congrArg BitVec.toNat h0)
  have hlast : journalLast s.active < Config.memoryWords := by
    unfold checkPlace at hplace
    split at hplace
    · cases hplace
    · next hbad => exact Nat.not_le.mp fun hle => hbad ⟨hcapacity, .inl hle⟩
  simp only [journalLast, Config.memoryWords] at hlast
  simp only [State.journalEntries] at hn
  rw [State.journalAddr, BitVec.toNat_add, BitVec.toNat_ofNat]
  omega

/-- The words of the course but the home words lie in the journal area. -/
theorem inJournal_roleAddr (h : ProfileLaw s) (hstage : s.stage = .recovery ∨ s.stage = .operating)
    (hj : s.journalEntries ≠ 0) (hcount : s.engineCount ≤ s.journalEntries) {role : WordRole}
    (hrange : roleInRange s role) (hrole : role.inHeaderOrSlot = true) : s.inJournal (s.roleAddr role) = true := by
  have hin {n : Nat} (hn : n ≤ 7 + 3 * s.journalEntries) : s.inJournal (s.journalAddr n) = true := by
    have haddr := journalAddr_toNat h hstage hj hn
    simp only [State.inJournal, inJournalArea, Bool.and_eq_true, decide_eq_true_eq, haddr]
    omega
  cases role with
  | slot i j =>
    obtain ⟨hi, hj2⟩ := hrange
    exact hin (by omega)
  | header n =>
    obtain ⟨-, hn⟩ := hrange
    exact hin (by omega)
  | format n =>
    obtain ⟨-, hn⟩ := hrange
    exact hin (by omega)
  | home k => cases hrole
  | logged | clear | restore | formatClear | damagedClear => exact hin (Nat.zero_le _)

end Journal

/-! ### Placing a word of the course -/

section Place

variable {s t : State} {role : WordRole}

theorem engineCount_le (h : Grounded s) : s.engineCount ≤ s.journalEntries := by
  rw [State.engineCount]
  match s.engine.current with
  | none => exact Nat.zero_le _
  | some (.port p) =>
    change s.entryCount (.port p) ≤ _
    rw [entryCount_eq]
    exact (h.port p).fits
  | some .recovery =>
    change s.entryCount .recovery ≤ _
    rw [entryCount_eq]
    exact h.recovery.fits

theorem stage_of_current (h : CourseLaw s) {p : Port} (hc : s.engine.current = some (.port p)) :
    s.stage = .operating := by
  obtain ⟨-, -, -, -, -, hported⟩ := h
  cases p
  · exact hported (.inl hc)
  · exact hported (.inr hc)

theorem ported_iff (e : Engine) : e.ported ↔ ∃ p, e.current = some (.port p) := by
  constructor
  · rintro (h | h)
    · exact ⟨.a, h⟩
    · exact ⟨.b, h⟩
  · rintro ⟨p, h⟩
    cases p
    · exact .inl h
    · exact .inr h

theorem phase_none_of_ready (h : CourseLaw s) (hready : s.stage = .operating) : s.recovery.phase = .none := by
  by_contra hne
  cases hready.symm.trans (h.pass hne).1

/-- A word is in hand only from recovery on, outside a recovery pass, with the engine neither IDLE nor FAULTED. -/
theorem working_of_roleFits (h : CourseLaw s) (hfits : roleFits s role) :
    (s.stage = .recovery ∨ s.stage = .operating) ∧ s.recovery.phase = .none ∧ s.engine.state ≠ .idle ∧
      s.engine.state ≠ .faulted := by
  have hstate : s.engine.state ≠ .idle ∧ s.engine.state ≠ .faulted ∧ s.engine.state ≠ .replayLoad := by
    cases role <;>
    · rw [hfits.1]
      decide
  obtain ⟨hidle, hfaulted, hload⟩ := hstate
  obtain ⟨hstart, hpass, -⟩ := h
  refine ⟨?_, ?_, hidle, hfaulted⟩
  · cases hs : s.stage with
    | recovery => exact .inl rfl
    | operating => exact .inr rfl
    | stopped => exact absurd (hstart (.inl hs)).1 hidle
    | waitPwrgood => exact absurd (hstart (.inr (.inl hs))).1 hidle
    | profileRead => exact absurd (hstart (.inr (.inr hs))).1 hidle
  · by_contra hne
    exact hload (hpass hne).2

/-- The journal area is not empty while the engine or recovery works. -/
theorem journal_ne_zero (h : Grounded s) (hworks : s.engine.ported ∨ s.stage = .recovery) : s.journalEntries ≠ 0 := by
  obtain hported | hstage := hworks
  · obtain ⟨p, hc⟩ := (ported_iff _).mp hported
    have hport := h.port p
    have haccepted : acceptedState (s.txns.get p).state = true := by
      have hin := hport.inEngine.mpr hc
      revert hin
      cases (s.txns.get p).state <;> decide
    have hlength := List.length_pos_iff.mpr (hport.held haccepted)
    have := hport.fits
    omega
  · exact h.slot.area hstage

theorem ported_or_recovery (h : CourseLaw s) (hfits : roleFits s role) (hrole : role.inHeaderOrSlot = true) :
    s.engine.ported ∨ s.stage = .recovery := by
  cases role with
  | slot | header | logged | restore => exact .inl hfits.2
  | format | formatClear | damagedClear => exact .inr hfits.2.2
  | home => cases hrole
  | clear =>
    obtain ⟨hstage, -⟩ := working_of_roleFits h hfits
    refine hstage.symm.imp_left fun hready => ?_
    rw [ported_iff]
    obtain ⟨-, hnone⟩ := h.ready hready
    match hc : s.engine.current with
    | none => exact absurd hc hfits.2
    | some .recovery => exact absurd hc hnone
    | some (.port p) => exact ⟨p, rfl⟩

/-- A word of the course, at an attempt from 1 to 3. -/
theorem wordFits_of_role (h : Grounded s) (hfits : roleFits s role) (hrange : roleInRange s role) {n : Nat}
    {granted : Bool} (hlow : 1 ≤ n) (hhigh : n ≤ 3) : WordFits s
      { role := role, addr := s.roleAddr role, value := s.roleValue role, attempt := n, granted := granted } := by
  refine ⟨hfits, hrange, hlow, hhigh, rfl, rfl, fun hrole => ?_⟩
  exact inJournal_roleAddr h.profile (working_of_roleFits h.course hfits).1
    (journal_ne_zero h (ported_or_recovery h.course hfits hrole)) (engineCount_le h) hrange hrole

/-- The engine with a fitting word in hand asks for its write. -/
theorem wordLaw_of_asks {w : WordInHand} (hcourse : CourseLaw t) (hword : t.engine.word = some w) (hfits : WordFits t w)
    (hrequest : ∀ q, t.waiting.engine = some q → engineAsks t q.kind q.addr ∧ t.engineInFlight = false)
    (hflight : ∀ a, t.inFlight = some a → a.holder = .engine → engineAsks t a.kind a.addr) : WordLaw t := by
  obtain ⟨hstage, hphase, hidle, hfaulted⟩ := working_of_roleFits hcourse hfits.1
  refine ⟨fun v hv => ?_, hrequest, hflight, fun _ hrest => ?_, fun hrest => ?_, fun hrest => ?_⟩
  · rw [hword] at hv
    exact Option.some.inj hv ▸ hfits
  · exact (hrest.elim hidle hfaulted).elim
  · obtain hs | hs := hstage <;> rw [hs] at hrest <;> cases hrest <;> contradiction
  · obtain hs | hs := hrest
    · obtain hr | hr := hstage <;> cases hs.symm.trans hr
    · exact absurd hphase hs

theorem engineInFlight_iff : s.engineInFlight = true ↔ ∃ a, s.inFlight = some a ∧ a.holder = .engine := by
  unfold State.engineInFlight
  split
  · next a ha => simp [ha]
  · next ha => simp [ha]

theorem not_engine_of_free (h : s.engineInFlight = false) (a : Access) (ha : s.inFlight = some a) :
    a.holder ≠ .engine := fun he => Bool.false_ne_true (h.symm.trans (engineInFlight_iff.mpr ⟨a, ha, he⟩))

theorem placeWord_handles (role : WordRole) (s : State) : Handles s (placeWord role s) :=
  ⟨rfl, rfl, rfl, rfl, rfl, rfl, rfl, rfl, rfl⟩

/-- A word of the course is placed in hand while no access of the engine is in flight. -/
theorem Grounded.place (h : Grounded s) (hfits : roleFits s role) (hrange : roleInRange s role)
    (hfree : s.engineInFlight = false) : Sound (placeWord role s) := by
  have hplaced := placeWord_handles role s
  have hground := hplaced.grounded h
  refine ⟨hground, wordLaw_of_asks hground.course rfl
    (hplaced.wordFits (wordFits_of_role h hfits hrange (Nat.le_refl 1) (by decide))) (fun q hq => ?_) fun a ha he => ?_⟩
  · obtain rfl : _ = q := Option.some.inj hq
    exact ⟨⟨_, rfl, rfl, rfl⟩, hfree⟩
  · exact absurd he (not_engine_of_free hfree a ha)

end Place

end Sys2Proof.Machine

/-! SUPPORT. The word in hand between two of its words: its access lands, its request is withdrawn or granted, it is
read back or tried again (06 R114, 10 R185, R188). -/

namespace Sys2Proof.Machine

section Handled

variable {s t : State}

/-- The word in hand stays; its request stays or is withdrawn, its access stays or is over. -/
theorem WordLaw.handles (h : WordLaw s) (k : Handles s t) (hword : t.engine.word = s.engine.word)
    (hrequest : t.waiting.engine = s.waiting.engine ∨ t.waiting.engine = none)
    (hflight : t.inFlight = s.inFlight ∨ t.engineInFlight = false) : WordLaw t := by
  obtain ⟨hfits, hasks, hflying, hrest, hstart, hpass⟩ := h
  have hfree (hs : s.engineInFlight = false) : t.engineInFlight = false := by
    obtain hf | hf := hflight
    · rw [engineInFlight_congr hf, hs]
    · exact hf
  have hnone (hs : s.waiting.engine = none) : t.waiting.engine = none := by
    obtain hr | hr := hrequest
    · rw [hr, hs]
    · exact hr
  refine ⟨fun w hw => k.wordFits (hfits w (hword ▸ hw)), fun q hq => ?_, fun a ha he => ?_, fun hready hidle => ?_,
    fun hstage => ?_, fun hphase => ?_⟩
  · obtain hr | hr := hrequest
    · obtain ⟨hask, hs⟩ := hasks q (hr ▸ hq)
      simp only [engineAsks, hword]
      exact ⟨hask, hfree hs⟩
    · cases hr.symm.trans hq
  · obtain hf | hf := hflight
    · simp only [engineAsks, hword]
      exact hflying a (hf ▸ ha) he
    · exact absurd he (not_engine_of_free hf a ha)
  · rw [k.stage] at hready
    rw [k.state] at hidle
    obtain ⟨hw, hr, hf⟩ := hrest hready hidle
    exact ⟨hword.trans hw, hnone hr, hfree hf⟩
  · rw [k.stage] at hstage
    obtain ⟨hw, hr, hf⟩ := hstart hstage
    exact ⟨hword.trans hw, hnone hr, hfree hf⟩
  · rw [k.stage, k.recovery] at hphase
    exact hword.trans (hpass hphase)

theorem Sound.handles (h : Sound s) (k : Handles s t) (hword : t.engine.word = s.engine.word)
    (hrequest : t.waiting.engine = s.waiting.engine ∨ t.waiting.engine = none)
    (hflight : t.inFlight = s.inFlight ∨ t.engineInFlight = false) : Sound t :=
  ⟨k.grounded h.toGrounded, h.word.handles k hword hrequest hflight⟩

/-- While an access of the engine is in flight, no request of it waits. -/
theorem no_request_of_inFlight (h : WordLaw s) (hflight : s.engineInFlight = true) : s.waiting.engine = none := by
  obtain ⟨-, hasks, -⟩ := h
  by_contra hne
  obtain ⟨q, hq⟩ := Option.ne_none_iff_exists'.mp hne
  exact Bool.false_ne_true ((hasks q hq).2.symm.trans hflight)

theorem engineInFlight_of_access {kind : AccessKind} {x : Addr}
    (h : s.inFlight = some { holder := .engine, kind := kind, addr := x }) : s.engineInFlight = true :=
  engineInFlight_iff.mpr ⟨_, h, rfl⟩

theorem engineInFlight_of_none (h : s.inFlight = none) : s.engineInFlight = false := by
  rw [State.engineInFlight, h]

/-- An access of the engine is in flight only while the engine works, or reads in start-up. -/
theorem awake_of_inFlight (h : WordLaw s) (hflight : s.engineInFlight = true) :
    (s.stage = .operating → s.engine.state ≠ .idle ∧ s.engine.state ≠ .faulted) ∧
    s.stage ≠ .stopped ∧ s.stage ≠ .waitPwrgood := by
  obtain ⟨-, -, -, hrest, hstart, -⟩ := h
  have hclash (hf : s.engineInFlight = false) : False := Bool.false_ne_true (hf.symm.trans hflight)
  exact ⟨fun hready => ⟨fun hs => hclash (hrest hready (.inl hs)).2.2, fun hs => hclash (hrest hready (.inr hs)).2.2⟩,
    fun hs => hclash (hstart (.inl hs)).2.2, fun hs => hclash (hstart (.inr hs)).2.2⟩

theorem requestEngineRead_handles (x : Addr) (s : State) : Handles s (requestEngineRead x s) :=
  ⟨rfl, rfl, rfl, rfl, rfl, rfl, rfl, rfl, rfl⟩

/-- The engine asks for a read. -/
theorem WordLaw.requestRead (h : WordLaw s) (hfree : s.engineInFlight = false)
    (hready : s.stage = .operating → s.engine.state ≠ .idle ∧ s.engine.state ≠ .faulted)
    (hstopped : s.stage ≠ .stopped) (hwait : s.stage ≠ .waitPwrgood) (x : Addr) :
    WordLaw (requestEngineRead x s) := by
  have k := requestEngineRead_handles x s
  obtain ⟨hfits, -, hflying, -, -, hpass⟩ := h
  refine ⟨fun w hw => k.wordFits (hfits w hw), fun q hq => ?_, hflying, fun hop hidle => ?_, fun hs => ?_, hpass⟩
  · obtain rfl : _ = q := Option.some.inj hq
    exact ⟨trivial, hfree⟩
  · exact (hidle.elim (hready hop).1 (hready hop).2).elim
  · exact (hs.elim hstopped hwait).elim

theorem Sound.requestRead (h : Sound s) (hfree : s.engineInFlight = false)
    (hready : s.stage = .operating → s.engine.state ≠ .idle ∧ s.engine.state ≠ .faulted)
    (hstopped : s.stage ≠ .stopped) (hwait : s.stage ≠ .waitPwrgood) (x : Addr) : Sound (requestEngineRead x s) :=
  ⟨(requestEngineRead_handles x s).grounded h.toGrounded, h.word.requestRead hfree hready hstopped hwait x⟩

/-- A further attempt at the word in hand. -/
theorem Sound.retry (h : Sound s) {w : WordInHand} (hw : s.engine.word = some w) (hattempt : w.attempt < 3)
    (hfree : s.engineInFlight = false) : Sound (retryWord w s) := by
  have k : Handles s (retryWord w s) := ⟨rfl, rfl, rfl, rfl, rfl, rfl, rfl, rfl, rfl⟩
  have hground := k.grounded h.toGrounded
  obtain ⟨hfits, hrange, hlow, -, haddr, hvalue, hjournal⟩ : WordFits s w := h.word.fits hw
  have hnext : WordFits s { w with attempt := w.attempt + 1 } :=
    ⟨hfits, hrange, Nat.le_add_left .., hattempt, haddr, hvalue, hjournal⟩
  refine ⟨hground, wordLaw_of_asks hground.course rfl (k.wordFits hnext) (fun q hq => ?_) fun a ha he => ?_⟩
  · obtain rfl : _ = q := Option.some.inj hq
    exact ⟨⟨_, rfl, rfl, rfl⟩, hfree⟩
  · exact absurd he (not_engine_of_free hfree a ha)

theorem grantedWord_value (kind : AccessKind) (w : WordInHand) : (grantedWord kind w).value = w.value := by
  cases kind <;> rfl

theorem grantedWord_addr (kind : AccessKind) (w : WordInHand) : (grantedWord kind w).addr = w.addr := by
  cases kind <;> rfl

theorem WordFits.granted {w : WordInHand} (h : WordFits s w) (kind : AccessKind) : WordFits s (grantedWord kind w) := by
  cases kind <;> exact h

theorem useGrant_engine (q : Request) (s : State) : useGrant .engine q (grantTo .engine s) = { s with
    engine := { s.engine with word := s.engine.word.map (grantedWord q.kind) },
    waiting := { s.waiting with engine := none },
    lastGranted := .engine,
    inFlight := some { holder := .engine, kind := q.kind, addr := q.addr } } := by
  unfold useGrant useEngineGrant grantTo beginAccess withdraw
  rfl

theorem useGrant_engine_handles (q : Request) (s : State) : Handles s (useGrant .engine q (grantTo .engine s)) := by
  rw [useGrant_engine]
  exact ⟨rfl, rfl, rfl, rfl, rfl, rfl, rfl, rfl, rfl⟩

/-- The engine's request is granted: its access begins, and a write of its word is marked granted. -/
theorem WordLaw.granted {q : Request} (h : WordLaw s) (hq : s.waiting.engine = some q) :
    WordLaw (useGrant .engine q (grantTo .engine s)) := by
  have k := useGrant_engine_handles q s
  rw [useGrant_engine] at k ⊢
  obtain ⟨hfits, hasks, -, hrest, hstart, hpass⟩ := h
  have hsome : s.waiting.engine ≠ none := by rw [hq]; nofun
  refine ⟨fun w hw => ?_, nofun, fun a ha he => ?_, fun hop hidle => absurd (hrest hop hidle).2.1 hsome,
    fun hs => absurd (hstart hs).2.1 hsome, fun hphase => ?_⟩
  · obtain ⟨v, hv, rfl⟩ := Option.map_eq_some_iff.mp hw
    exact k.wordFits (WordFits.granted (hfits v hv) q.kind)
  · obtain rfl : _ = a := Option.some.inj ha
    obtain ⟨hask, -⟩ := hasks q hq
    change engineAsks _ q.kind q.addr
    unfold engineAsks at hask ⊢
    split
    · trivial
    · next d hd =>
      rw [hd] at hask
      obtain ⟨w, hw, hvalue, haddr⟩ := hask
      refine ⟨_, congrArg (Option.map (grantedWord q.kind)) hw, ?_, ?_⟩
      · rw [grantedWord_value, hvalue]
      · rw [grantedWord_addr, haddr]
  · exact congrArg (Option.map (grantedWord q.kind)) (hpass hphase)

/-- The engine at rest after READY. -/
theorem WordLaw.of_rest (hword : t.engine.word = none) (hrequest : t.waiting.engine = none)
    (hfree : t.engineInFlight = false) : WordLaw t := by
  refine ⟨fun w hw => ?_, fun q hq => ?_, fun a ha he => absurd he (not_engine_of_free hfree a ha),
    fun _ _ => ⟨hword, hrequest, hfree⟩, fun _ => ⟨hword, hrequest, hfree⟩, fun _ => hword⟩
  · cases hword.symm.trans hw
  · cases hrequest.symm.trans hq

end Handled

end Sys2Proof.Machine

/-! SUPPORT. The end of the transaction that the engine works on, the entry into FAULTED and the end of the queue, over
the laws (06 R122 to R130). -/

namespace Sys2Proof.Machine

/-! ### The entries that the end of a transaction leaves (05 R89, R106) -/

section Entries

variable {s t : State} {p : Port} {o : TxnOutcome}

theorem convertEntry_owner (e : Entry) :
    (convertEntry p e).owner = if e.owner = .port p then .recovery else e.owner := by
  unfold convertEntry
  split <;> rfl

theorem convertEntry_position (e : Entry) : (convertEntry p e).position = e.position := by
  unfold convertEntry
  split <;> rfl

theorem owned_converted (ht : t.sb = s.sb.map (convertEntry p)) (x : Owner) :
    t.owned x = (s.sb.filter (fun e => decide ((convertEntry p e).owner = x))).map (convertEntry p) := by
  rw [State.owned, ht, List.filter_map]
  rfl

/-- No entry of the ended transaction keeps its owner. -/
theorem entriesAfter_owned_self (ht : t.sb = entriesAfter p o s.sb) : t.owned (.port p) = [] := by
  by_cases ho : o = .applyFault
  · rw [owned_converted (ht.trans (if_pos ho)), List.map_eq_nil_iff, List.filter_eq_nil_iff]
    intro e _ he
    rw [convertEntry_owner] at he
    split at he
    · simp at he
    · next hne => exact hne (by simpa using he)
  · exact owned_filter_none (ht.trans (entriesAfter_of_ne ho p s.sb)) fun e he => by simp [he]

/-- The other port's entries stay. -/
theorem entriesAfter_owned_port {q : Port} (hq : q ≠ p) (ht : t.sb = entriesAfter p o s.sb) :
    t.owned (.port q) = s.owned (.port q) := by
  by_cases ho : o = .applyFault
  · have hsame (e : Entry) (he : e.owner = .port q) : convertEntry p e = e :=
      if_neg fun hp => hq (Owner.port.inj (he.symm.trans hp))
    rw [owned_converted (ht.trans (if_pos ho))]
    have hfilter : s.sb.filter (fun e => decide ((convertEntry p e).owner = .port q)) = s.owned (.port q) := by
      refine List.filter_congr fun e _ => decide_eq_decide.mpr ?_
      rw [convertEntry_owner]
      split
      · next hp => exact iff_of_false nofun fun he => hq (Owner.port.inj (he.symm.trans hp))
      · rfl
    rw [hfilter]
    exact (List.map_congr_left fun e he => hsame e (mem_owned.mp he).2).trans (List.map_id _)
  · exact owned_filter_other (ht.trans (entriesAfter_of_ne ho p s.sb)) fun e he => by simp [he, hq]

/-- RECOVERY entries stay, unless the ended transaction's become such. -/
theorem entriesAfter_owned_recovery (ho : o ≠ .applyFault) (ht : t.sb = entriesAfter p o s.sb) :
    t.owned .recovery = s.owned .recovery :=
  owned_filter_other (ht.trans (entriesAfter_of_ne ho p s.sb)) fun e he => by simp [he]

/-- At APPLY_FAULT the transaction's entries become the RECOVERY entries (05 R89). -/
theorem converted_owned_recovery (hnone : s.owned .recovery = []) (ht : t.sb = entriesAfter p .applyFault s.sb) :
    t.owned .recovery = (s.owned (.port p)).map (convertEntry p) := by
  rw [owned_converted (ht.trans (if_pos rfl))]
  congr 1
  refine List.filter_congr fun e he => decide_eq_decide.mpr ?_
  rw [convertEntry_owner]
  split
  · next hp => exact iff_of_true rfl hp
  · next hp =>
    refine iff_of_false (fun hr => ?_) hp
    have hmem : e ∈ s.owned .recovery := mem_owned.mpr ⟨he, hr⟩
    rw [hnone] at hmem
    cases hmem

theorem entriesAfter_length : (entriesAfter p o s.sb).length ≤ s.sb.length := by
  rw [← endTxn_sb]
  exact endTxn_sb_length

end Entries

/-! ### The engine's transaction ends -/

/-- From s to t the transaction of port p, which the engine works on, has ended, and the engine is at rest. -/
structure Ended (s t : State) (p : Port) (o : TxnOutcome) (e : EngineState) : Prop where
  profile : t.profile = s.profile
  stage : t.stage = s.stage
  recovery : t.recovery = s.recovery
  inFlight : t.inFlight = s.inFlight
  sb : t.sb = entriesAfter p o s.sb
  txns : t.txns = s.txns.set p Txn.empty
  claim : ∀ w : Fin 16, t.claim w = releaseClaim p (s.claim w)
  queue : t.commitQueue = s.commitQueue.filter (fun q => decide (q ≠ p))
  state : t.engine.state = e
  current : t.engine.current = none
  word : t.engine.word = none
  request : t.waiting.engine = none

section TransactionEnds

variable {s t : State} {p : Port} {o : TxnOutcome} {e : EngineState}

/-- The transaction ends, and the engine's record is then as at rest. -/
theorem Ended.of_endTxn {u : State} (hu : u = Machine.endTxn p o s)
    (ht : t = { u with engine := t.engine, waiting := t.waiting }) (hstate : t.engine.state = e)
    (hcurrent : t.engine.current = none) (hword : t.engine.word = none) (hrequest : t.waiting.engine = none) :
    Ended s t p o e := by
  have hframe : u = { s with
      sb := u.sb, claims := u.claims, txns := u.txns, commitQueue := u.commitQueue, sessions := u.sessions,
      raised := u.raised } := by
    rw [hu]
    exact endTxn_frame p o s
  have hsb := endTxn_sb p o s
  have htxns := endTxn_txns p o s
  have hclaim := endTxn_claim p o s
  have hqueue := endTxn_commitQueue p o s
  rw [← hu] at hsb htxns hqueue
  simp only [← hu] at hclaim
  clear hu
  refine ⟨?_, ?_, ?_, ?_, ?_, ?_, ?_, ?_, hstate, hcurrent, hword, hrequest⟩
  · exact (congrArg State.profile ht :).trans (congrArg State.profile hframe :)
  · exact (congrArg State.stage ht :).trans (congrArg State.stage hframe :)
  · exact (congrArg State.recovery ht :).trans (congrArg State.recovery hframe :)
  · exact (congrArg State.inFlight ht :).trans (congrArg State.inFlight hframe :)
  · exact (congrArg State.sb ht :).trans hsb
  · exact (congrArg State.txns ht :).trans htxns
  · exact fun w => (congrArg (fun v => State.claim v w) ht :).trans (hclaim w)
  · exact (congrArg State.commitQueue ht :).trans hqueue

theorem endEngine_setEngine_frame (e : EngineState) (x : Engine) (u : State) : endEngine e (u.setEngine x) = { u with
    engine := (endEngine e (u.setEngine x)).engine, waiting := (endEngine e (u.setEngine x)).waiting } := rfl

theorem ended_endEngine (e : EngineState) (p : Port) (o : TxnOutcome) (s : State) :
    Ended s (endEngine e (endTxn p o s)) p o e := by
  have hframe : endEngine e (endTxn p o s) = { endTxn p o s with
      engine := (endEngine e (endTxn p o s)).engine, waiting := (endEngine e (endTxn p o s)).waiting } := rfl
  exact .of_endTxn rfl hframe rfl rfl rfl rfl

theorem ended_commitDone (p : Port) (s : State) : Ended s (commitDone p s) p .committed .idle := by
  unfold commitDone
  exact .of_endTxn rfl (endEngine_setEngine_frame ..) rfl rfl rfl rfl

theorem ended_endLogging (h : s.engine.current = some (.port p)) :
    Ended s (endLogging s) p (loggingOutcome s.engine.stop) .idle := by
  rw [endLogging, endCurrent_of_port h]
  exact ended_endEngine ..

/-- While the engine works on a port's transaction there are no RECOVERY entries. -/
theorem recovery_none_of_current (h : Grounded s) (hc : s.engine.current = some (.port p)) :
    s.owned .recovery = [] := by
  have hready := stage_of_current h.course hc
  by_contra hne
  obtain ⟨hstage, -⟩ | ⟨-, hfaulted⟩ := h.recovery.place hne
  · cases hready.symm.trans hstage
  · obtain ⟨hrest, -⟩ := h.course.ready hready
    cases hc.symm.trans (hrest.mpr (.inr hfaulted))

namespace Ended

theorem active (k : Ended s t p o e) : t.active = s.active := congrArg (·.getD noProfile) k.profile

theorem recoverySound (k : Ended s t p o e) (h : Grounded s) (hc : s.engine.current = some (.port p))
    (ho : o = .applyFault → e = .faulted) : RecoverySound t := by
  have hnone := recovery_none_of_current h hc
  have hport := h.port p
  by_cases hfault : o = .applyFault
  · have howned : t.owned .recovery = (s.owned (.port p)).map (convertEntry p) :=
      converted_owned_recovery hnone (hfault ▸ k.sb)
    refine ⟨?_, ?_, fun _ => .inr ⟨k.stage.trans (stage_of_current h.course hc), k.state.trans (ho hfault)⟩⟩
    · rw [howned, List.length_map, ← hport.positions, List.map_map]
      exact List.map_congr_left fun x _ => convertEntry_position x
    · rw [howned, List.length_map, State.journalEntries, k.active]
      exact hport.fits
  · have howned : t.owned .recovery = [] := (entriesAfter_owned_recovery hfault k.sb).trans hnone
    refine ⟨?_, ?_, fun hne => absurd howned hne⟩
    · rw [howned]
      rfl
    · rw [howned]
      exact Nat.zero_le _

theorem txnSound (k : Ended s t p o e) (h : Grounded s) (hc : s.engine.current = some (.port p)) (q : Port) :
    TxnSound t q := by
  by_cases hq : q = p
  · subst hq
    refine .of_none (entriesAfter_owned_self k.sb) (fun w hw => ?_) ?_ (by rw [k.current]; nofun) ?_
    · rw [k.claim, releaseClaim] at hw
      split at hw
      · cases hw
      · next hne => exact hne hw
    · rw [k.txns, PerPort_get_set_same]
      rfl
    · rw [k.queue]
      simp
  · have htxn : t.txns.get q = s.txns.get q := by rw [k.txns, PerPort_get_set, if_neg hq]
    have hclaim (w : Fin 16) : t.claim w = some q ↔ s.claim w = some q := by
      rw [k.claim, releaseClaim]
      split
      · next hp => exact iff_of_false nofun fun hc => hq (Option.some.inj (hc.symm.trans hp))
      · rfl
    have hqueue : q ∈ t.commitQueue ↔ q ∈ s.commitQueue := by rw [k.queue]; simp [hq]
    have hother : s.engine.current ≠ some (.port q) := by
      rw [hc]
      exact fun h => hq (Owner.port.inj (Option.some.inj h)).symm
    exact (h.port q).congr ⟨entriesAfter_owned_port hq k.sb, by rw [htxn], hclaim, hqueue⟩ k.active
      (fun hs => k.stage.trans hs) (iff_of_false (by rw [k.current]; nofun) hother) fun h => absurd h hother

theorem courseLaw (k : Ended s t p o e) (h : CourseLaw s) (hc : s.engine.current = some (.port p))
    (he : e = .idle ∨ e = .faulted) : CourseLaw t := by
  have hready := stage_of_current h hc
  have hphase := phase_none_of_ready h hready
  rw [CourseLaw, k.stage, k.recovery, k.state, k.current, hready, hphase]
  refine ⟨nofun, fun hne => absurd rfl hne, nofun, nofun, fun _ => ⟨iff_of_true rfl he, nofun⟩, fun _ => rfl⟩

theorem slotLaw (k : Ended s t p o e) (h : Grounded s) (hc : s.engine.current = some (.port p)) : SlotLaw t := by
  have hready := stage_of_current h.course hc
  have hphase := phase_none_of_ready h.course hready
  rw [SlotLaw, k.stage, k.recovery, hready, hphase]
  exact ⟨nofun, nofun, nofun, nofun, nofun, nofun⟩

/-- The end of the engine's transaction while no access of the engine is in flight. -/
theorem sound (k : Ended s t p o e) (h : Sound s) (hc : s.engine.current = some (.port p))
    (ho : o = .applyFault → e = .faulted) (he : e = .idle ∨ e = .faulted) (hfree : s.engineInFlight = false) :
    Sound t where
  profile := h.profile.congr k.profile k.stage
  port := k.txnSound h.toGrounded hc
  recovery := k.recoverySound h.toGrounded hc ho
  room := by
    rw [k.sb]
    exact entriesAfter_length.trans h.room
  nodup := by
    rw [k.queue]
    exact h.nodup.filter _
  course := k.courseLaw h.course hc he
  slot := k.slotLaw h.toGrounded hc
  word := .of_rest k.word k.request ((engineInFlight_congr k.inFlight).trans hfree)

theorem queue_length (k : Ended s t p o e) (h : QueueLaw s) : t.commitQueue.length ≤ 1 := by
  rw [k.queue]
  exact (List.length_filter_le ..).trans h.1

theorem lawful (k : Ended s t p o .idle) (h : Lawful s) (hc : s.engine.current = some (.port p))
    (ho : o ≠ .applyFault) (hfree : s.engineInFlight = false) : Lawful t := by
  refine ⟨k.sound h.sound hc (fun hf => absurd hf ho) (.inl rfl) hfree, k.queue_length h.queue, fun hrest => ?_⟩
  rw [k.state, k.stage, stage_of_current h.sound.course hc] at hrest
  exact absurd hrest (by decide)

end Ended

end TransactionEnds

/-! ### The queue ends, and FAULTED (06 R130, 08 R162) -/

section Faulted

variable {s t : State} {p : Port} {o : TxnOutcome}

theorem QueueLaw.of_nil (h : t.commitQueue = []) : QueueLaw t := by
  rw [QueueLaw, h]
  exact ⟨Nat.zero_le 1, fun _ => rfl⟩

/-- A QUEUED transaction is not the engine's. -/
theorem not_current_of_queued (h : Sound s) (hp : p ∈ s.commitQueue) : s.engine.current ≠ some (.port p) := by
  refine not_current_of_not_inEngine h ?_
  rw [(h.port p).queued.mp hp]
  rfl

/-- The transactions still QUEUED end. -/
theorem endQueued_lawful (h : Sound s) (hone : s.commitQueue.length ≤ 1) (ho : o ≠ .applyFault) :
    Lawful (endQueued o s) := by
  match hq : s.commitQueue, hone with
  | [], _ =>
    rw [endQueued_of_nil hq]
    exact ⟨h, .of_nil hq⟩
  | [q], _ =>
    rw [endQueued_of_one hq]
    refine ⟨h.endTxn ho (not_current_of_queued h (by rw [hq]; exact List.mem_singleton_self q)), .of_nil ?_⟩
    rw [endTxn_commitQueue, hq]
    simp

/-- The engine's transaction ends and the engine enters FAULTED. -/
theorem enterFaulted_lawful (h : Lawful s) (hc : s.engine.current = some (.port p)) (hfree : s.engineInFlight = false)
    (phase : BitVec 4) (x : Addr) : Lawful (enterFaulted phase x (endTxn p o s)) := by
  have k := ended_endEngine .faulted p o s
  have hended : Sound (endEngine .faulted (endTxn p o s)) := k.sound h.sound hc (fun _ => rfl) (.inr rfl) hfree
  have hraised := raise_aside (endEngine .faulted (endTxn p o s)) .engineFault .part none
    (phaseAndHigh phase x) (addrLow x)
  unfold enterFaulted
  refine endQueued_lawful (hended.aside hraised) ?_ (by decide)
  rw [hraised.queue]
  exact k.queue_length h.queue

end Faulted

end Sys2Proof.Machine

/-! SUPPORT. The course of a port's transaction in the engine over the laws: the take, the commit point, clearing, the
stop (06 R116 to R125). -/

namespace Sys2Proof.Machine

/-! ### The engine turns to a state of its course -/

/-- From s to t the engine has turned, with port p's transaction, to the state e of its course. -/
structure Turns (s t : State) (p : Port) (e : EngineState) : Prop where
  profile : t.profile = s.profile
  stage : t.stage = s.stage
  recovery : t.recovery = s.recovery
  sb : t.sb = s.sb
  claims : t.claims = s.claims
  txn : (t.txns.get p).state = txnStateOf e
  other : ∀ q, q ≠ p → t.txns.get q = s.txns.get q
  dequeued : p ∉ t.commitQueue
  queue : ∀ q, q ≠ p → (q ∈ t.commitQueue ↔ q ∈ s.commitQueue)
  nodup : t.commitQueue.Nodup
  state : t.engine.state = e
  current : t.engine.current = some (.port p)

section Turning

variable {s t : State} {p : Port} {e : EngineState}

theorem Turns.grounded (k : Turns s t p e) (h : Grounded s) (hready : s.stage = .operating)
    (hcurrent : s.engine.current = none ∨ s.engine.current = some (.port p)) (hheld : s.owned (.port p) ≠ [])
    (hrecovery : s.owned .recovery = []) (he : inEngine (txnStateOf e) = true) : Grounded t := by
  have hactive : t.active = s.active := congrArg (·.getD noProfile) k.profile
  have howned (o : Owner) : t.owned o = s.owned o := by rw [State.owned, State.owned, k.sb]
  have hclaim (w : Fin 16) : t.claim w = s.claim w := by rw [State.claim, State.claim, k.claims]
  have hwindow (w : Fin 16) : t.window w = s.window w := by rw [State.window, State.window, hactive]
  have hphase := phase_none_of_ready h.course hready
  have hport := h.port p
  have hrest : e ≠ .idle ∧ e ≠ .faulted ∧ txnStateOf e ≠ .none ∧ txnStateOf e ≠ .queued := by
    revert he
    cases e <;> decide
  obtain ⟨hidle, hfaulted, hnone, hqueued⟩ := hrest
  refine ⟨h.profile.congr k.profile k.stage, fun q => ?_, ?_, by rw [k.sb]; exact h.room, k.nodup, ?_, ?_⟩
  · by_cases hq : q = p
    · subst hq
      constructor
      case positions => rw [howned, hport.positions]
      case fits =>
        rw [howned, State.journalEntries, hactive]
        exact hport.fits
      case distinct =>
        rw [howned]
        exact hport.distinct
      case ready => exact fun _ => ⟨k.stage.trans hready, by rw [k.txn]; exact hnone⟩
      case claims =>
        intro w hw
        rw [hwindow, howned]
        simp only [windowOf_congr hactive]
        exact hport.claims w ((hclaim w).symm.trans hw)
      case claimed =>
        rw [howned]
        intro x hx
        obtain ⟨w, hw, hc⟩ := hport.claimed x hx
        exact ⟨w, (windowOf_congr hactive _).trans hw, (hclaim w).trans hc⟩
      case inEngine => rw [k.txn]; exact iff_of_true he k.current
      case state => rw [k.txn, k.state]; exact fun _ => rfl
      case queued => rw [k.txn]; exact iff_of_false k.dequeued hqueued
      case held => rw [howned]; exact fun _ => hheld
    · have hothers : s.engine.current ≠ some (.port q) := by
        obtain hc | hc := hcurrent
        · rw [hc]
          nofun
        · rw [hc]
          exact fun heq => hq (Owner.port.inj (Option.some.inj heq)).symm
      refine (h.port q).congr ⟨howned _, by rw [k.other q hq], fun w => by rw [hclaim], k.queue q hq⟩ hactive
        (fun hs => k.stage.trans hs) (iff_of_false ?_ hothers) fun hc => absurd hc hothers
      rw [k.current]
      exact fun heq => hq (Owner.port.inj (Option.some.inj heq)).symm
  · have hno : t.owned .recovery = [] := (howned _).trans hrecovery
    refine ⟨?_, ?_, fun hne => absurd hno hne⟩
    · rw [hno]
      rfl
    · rw [hno]
      exact Nat.zero_le _
  · rw [CourseLaw, k.stage, k.recovery, k.state, k.current, hready, hphase]
    exact ⟨nofun, fun hne => absurd rfl hne, nofun, nofun,
      fun _ => ⟨iff_of_false nofun fun hor => hor.elim hidle hfaulted, by simp⟩, fun _ => rfl⟩
  · rw [SlotLaw, k.stage, k.recovery, hready, hphase]
    exact ⟨nofun, nofun, nofun, nofun, nofun, nofun⟩

theorem Turns.queueLaw (k : Turns s t p e) (h : t.commitQueue.length ≤ 1) (hready : s.stage = .operating)
    (he : e ≠ .faulted) : QueueLaw t := by
  refine ⟨h, fun hrest => ?_⟩
  rw [k.state, k.stage, hready] at hrest
  exact absurd hrest (by simp [he])

theorem held_of_current (h : Grounded s) (hc : s.engine.current = some (.port p)) : s.owned (.port p) ≠ [] := by
  refine (h.port p).held ?_
  have hin := (h.port p).inEngine.mpr hc
  revert hin
  cases (s.txns.get p).state <;> decide

theorem engineCount_pos (h : Grounded s) (hc : s.engine.current = some (.port p)) : 0 < s.engineCount := by
  rw [engineCount_of_current hc, entryCount_eq]
  exact List.length_pos_iff.mpr (held_of_current h hc)

end Turning

/-! ### The take (06 R116, R117) -/

section Take

variable {s : State} {p : Port} {rest : List Port}

theorem takenState_turns (hqueue : s.commitQueue = p :: rest) (hnodup : s.commitQueue.Nodup) :
    Turns s (takenState p rest s) p .logging := by
  rw [hqueue, List.nodup_cons] at hnodup
  have htxn (q : Port) : (takenState p rest s).txns.get q =
      if q = p then takenTxn s.engine.nextNumber (s.txns.get p) else s.txns.get q := PerPort_get_set ..
  refine ⟨rfl, rfl, rfl, rfl, rfl, ?_, fun q hq => ?_, hnodup.1, fun q hq => ?_, hnodup.2, rfl, rfl⟩
  · rw [htxn, if_pos rfl]
    rfl
  · rw [htxn, if_neg hq]
  · rw [hqueue, List.mem_cons, or_iff_right hq]
    rfl

/-- The IDLE engine takes the head of the queue. -/
theorem engineTake_lawful (h : Sound s) (hready : s.stage = .operating) (hidle : s.engine.state = .idle)
    (hqueue : s.commitQueue = p :: rest) (hone : rest.length ≤ 1) : Lawful (engineTake s) := by
  have k := takenState_turns hqueue h.nodup
  have hcurrent : s.engine.current = none := (h.course.ready hready).1.mpr (.inl hidle)
  have hqueued : (s.txns.get p).state = .queued := (h.port p).queued.mp (by rw [hqueue]; exact List.mem_cons_self)
  have hrecovery : s.owned .recovery = [] := by
    by_contra hne
    obtain ⟨hs, -⟩ | ⟨-, hs⟩ := h.recovery.place hne
    · cases hready.symm.trans hs
    · cases hidle.symm.trans hs
  have hground := k.grounded h.toGrounded hready (.inl hcurrent) ((h.port p).held (by rw [hqueued]; rfl)) hrecovery rfl
  have hfree : s.engineInFlight = false := (h.word.rest hready (.inl hidle)).2.2
  rw [engineTake_of_idle hidle hqueue]
  refine ⟨hground.place ⟨rfl, (ported_iff _).mpr ⟨p, rfl⟩⟩ ⟨engineCount_pos hground rfl, Nat.zero_le 2⟩ hfree, ?_⟩
  exact (placeWord_handles _ _).queueLaw (k.queueLaw hone hready nofun)

theorem takes_lawful (h : Lawful s) (hready : s.stage = .operating) : Lawful (engineTake s) := by
  unfold engineTake
  split
  · next q others hidle hqueue =>
    have hlawful := engineTake_lawful h.sound hready hidle hqueue (by
      have := h.queue.1
      rw [hqueue, List.length_cons] at this
      omega)
    rwa [engineTake_of_idle hidle hqueue] at hlawful
  · exact h

end Take

/-! ### The commit point and clearing (06 R120 to R122) -/

section Course

variable {s : State} {p : Port} {e : EngineState}

theorem setTxnState_turns (h : Grounded s) (hc : s.engine.current = some (.port p)) (e : EngineState) :
    Turns s (setTxnState p (txnStateOf e) (setEngineState e s)) p e := by
  have htxn (q : Port) : (setTxnState p (txnStateOf e) (setEngineState e s)).txns.get q =
      if q = p then { s.txns.get p with state := txnStateOf e } else s.txns.get q := PerPort_get_set ..
  refine ⟨rfl, rfl, rfl, rfl, rfl, ?_, fun q hq => ?_, fun hq => ?_, fun _ _ => Iff.rfl, h.nodup, rfl, hc⟩
  · rw [htxn, if_pos rfl]
  · rw [htxn, if_neg hq]
  · have hin := (h.port p).inEngine.mpr hc
    rw [(h.port p).queued.mp hq] at hin
    cases hin

theorem turn_lawful (h : Lawful s) (hc : s.engine.current = some (.port p)) (he : inEngine (txnStateOf e) = true)
    (hfree : s.engineInFlight = false) {role : WordRole}
    (hfits : roleFits (setTxnState p (txnStateOf e) (setEngineState e s)) role)
    (hrange : roleInRange (setTxnState p (txnStateOf e) (setEngineState e s)) role) :
    Lawful (placeWord role (setTxnState p (txnStateOf e) (setEngineState e s))) := by
  have k := setTxnState_turns h.sound.toGrounded hc e
  have hready := stage_of_current h.sound.course hc
  have hground := k.grounded h.sound.toGrounded hready (.inr hc) (held_of_current h.sound.toGrounded hc)
    (recovery_none_of_current h.sound.toGrounded hc) he
  have hfaulted : e ≠ .faulted := by
    rintro rfl
    cases he
  exact ⟨hground.place hfits hrange hfree, (placeWord_handles _ _).queueLaw (k.queueLaw h.queue.1 hready hfaulted)⟩

theorem commitPoint_lawful (h : Lawful s) (hc : s.engine.current = some (.port p)) (hfree : s.engineInFlight = false) :
    Lawful (commitPoint s) := by
  rw [commitPoint_of_port hc]
  refine turn_lawful (e := .applying) h hc rfl hfree ⟨rfl, ?_⟩ ?_
  · change s.engine.current ≠ none
    rw [hc]
    nofun
  · change 0 < s.engineCount
    exact engineCount_pos h.sound.toGrounded hc

theorem beginClearing_lawful (h : Lawful s) (hc : s.engine.current = some (.port p))
    (hfree : s.engineInFlight = false) :
    Lawful (beginClearing s) := by
  rw [beginClearing_of_port hc]
  refine turn_lawful (e := .clearing) h hc rfl hfree ⟨rfl, ?_⟩ trivial
  change s.engine.current ≠ none
  rw [hc]
  nofun

theorem placeWord_lawful (h : Lawful s) {role : WordRole} (hfits : roleFits s role) (hrange : roleInRange s role)
    (hfree : s.engineInFlight = false) : Lawful (placeWord role s) :=
  ⟨h.sound.toGrounded.place hfits hrange hfree, (placeWord_handles role s).queueLaw h.queue⟩

end Course

/-! ### The stop (06 R124, R125) -/

section Stop

variable {s : State} {p : Port}

theorem Lawful.handles {t : State} (h : Lawful s) (k : Handles s t) (hword : t.engine.word = s.engine.word)
    (hrequest : t.waiting.engine = s.waiting.engine ∨ t.waiting.engine = none)
    (hflight : t.inFlight = s.inFlight ∨ t.engineInFlight = false) : Lawful t :=
  ⟨h.sound.handles k hword hrequest hflight, k.queueLaw h.queue⟩

theorem beginRestoring_lawful (h : Lawful s) (hstate : s.engine.state = .logging)
    (hc : s.engine.current = some (.port p)) (hfree : s.engineInFlight = false) : Lawful (beginRestoring s) := by
  have hset : Lawful (s.setEngine { s.engine with restoring := true }) :=
    h.handles ⟨rfl, rfl, rfl, rfl, rfl, rfl, rfl, rfl, rfl⟩ rfl (.inl rfl) (.inl rfl)
  exact placeWord_lawful hset ⟨hstate, (ported_iff _).mpr ⟨p, hc⟩⟩ trivial hfree

theorem loggingOutcome_ne (c : Option StopCause) : loggingOutcome c ≠ .applyFault := by
  match c with
  | none => decide
  | some .abort => decide
  | some .fence => decide

theorem endLogging_lawful (h : Lawful s) (hc : s.engine.current = some (.port p)) (hfree : s.engineInFlight = false) :
    Lawful (endLogging s) := (ended_endLogging hc).lawful h hc (loggingOutcome_ne _) hfree

theorem settleStop_lawful (h : Lawful s) (hstate : s.engine.state = .logging)
    (hc : s.engine.current = some (.port p)) (hfree : s.engineInFlight = false) : Lawful (settleStop s) := by
  unfold settleStop
  split
  · split
    · exact beginRestoring_lawful h hstate hc hfree
    · exact endLogging_lawful h hc hfree
  · exact endLogging_lawful h hc hfree

theorem stopEngine_lawful (h : Lawful s) (hstate : s.engine.state = .logging)
    (hc : s.engine.current = some (.port p)) (cause : StopCause) : Lawful (stopEngine cause s) := by
  have hrecorded : Lawful (recordStop cause s) :=
    h.handles ⟨rfl, rfl, rfl, rfl, rfl, rfl, rfl, rfl, rfl⟩ rfl (.inl rfl) (.inl rfl)
  have hwithdrawn : Lawful ((recordStop cause s).setEngineRequest none) :=
    hrecorded.handles ⟨rfl, rfl, rfl, rfl, rfl, rfl, rfl, rfl, rfl⟩ rfl (.inr rfl) (.inl rfl)
  unfold stopEngine
  dsimp only
  split
  · exact hrecorded
  split
  · exact hwithdrawn
  · next hfree => exact settleStop_lawful hwithdrawn hstate hc (by simpa using hfree)

end Stop

end Sys2Proof.Machine

/-! SUPPORT. COMMIT and ABORT, the other command words, client cycles and the entry into the fence, over the laws
(03 R53 to R64, 05 R104, R105; 08 R158). -/

namespace Sys2Proof.Machine

/-! ### COMMIT and ABORT (03 R57, R58) -/

section Verbs

variable {s : State} {p : Port} {x : Session}

/-- COMMIT finds a staged transaction, empty, or with entries and an engine that is not FAULTED. -/
theorem commitResult_ok (h : s.commitResult p x = .ok) : (s.txns.get p).state = .staging := by
  unfold State.commitResult at h
  split at h
  · cases h
  split at h
  case h_7 hstate => exact hstate
  all_goals cases h

theorem commitResult_accepted (h : s.commitResult p x = .accepted) :
    (s.txns.get p).state = .staging ∧ s.engine.state ≠ .faulted ∧ s.owned (.port p) ≠ [] := by
  unfold State.commitResult at h
  split at h
  · cases h
  split at h
  case h_7 hstate =>
    split at h
    · cases h
    next hfaulted =>
    split at h
    · cases h
    next hcount =>
    refine ⟨hstate, hfaulted, fun hnil => hcount ?_⟩
    rw [entryCount_eq, hnil]
    rfl
  all_goals cases h

theorem queueTxn_txn (q : Port) : (queueTxn p s).txns.get q =
    if q = p then { s.txns.get p with state := .queued } else s.txns.get q := PerPort_get_set ..

/-- A staged transaction joins the queue. -/
theorem queueTxn_sound (h : Sound s) (hstate : (s.txns.get p).state = .staging) (hheld : s.owned (.port p) ≠ []) :
    Sound (queueTxn p s) := by
  have hport := h.port p
  have hidle := not_current_of_not_inEngine h (p := p) (by rw [hstate]; rfl)
  have hout : p ∉ s.commitQueue := fun hp => TxnState.noConfusion (hstate.symm.trans (hport.queued.mp hp))
  have hself : ((queueTxn p s).txns.get p).state = .queued := by rw [queueTxn_txn, if_pos rfl]
  have hqueue : (queueTxn p s).commitQueue = s.commitQueue ++ [p] := rfl
  have beside : Beside s (queueTxn p s) p := by
    refine ⟨rfl, rfl, rfl, rfl, rfl, rfl, fun _ _ => rfl, fun q hq => ?_, fun _ _ _ => Iff.rfl, fun q hq => ?_, hidle⟩
    · rw [queueTxn_txn, if_neg hq]
    · rw [hqueue]
      simp [hq]
  refine h.beside beside ⟨hport.positions, hport.fits, hport.distinct, fun hne => ⟨(hport.ready hne).1, ?_⟩,
    hport.claims, hport.claimed, ?_, fun hc => absurd hc hidle, ?_, fun _ => hheld⟩ h.room ?_
  · rw [hself]
    nofun
  · rw [hself]
    exact iff_of_false nofun hidle
  · rw [hself, hqueue]
    simp
  · rw [hqueue, List.nodup_append]
    exact ⟨h.nodup, List.nodup_singleton p, fun q hq r hr hqr => hout (by
      rw [← List.mem_singleton.mp hr, ← hqr]
      exact hq)⟩

/-- Two transactions in the queue leave none for the engine, which takes the older. -/
theorem takeWhenTwo_lawful (h : Sound s) (hready : s.stage = .operating) (hfaulted : s.engine.state ≠ .faulted)
    (htwo : s.commitQueue.length ≤ 2) : Lawful (takeWhenTwo s) := by
  unfold takeWhenTwo
  split
  case isFalse hone =>
    refine ⟨h, by omega, fun hrest => ?_⟩
    exact (hrest.elim hfaulted (not_not_intro hready)).elim
  next hlength =>
  match hqueue : s.commitQueue, hlength, htwo with
  | q :: r :: [], _, _ =>
    have hnodup := h.nodup
    rw [hqueue] at hnodup
    have hall (p : Port) : p ∈ s.commitQueue := by
      rw [hqueue]
      have hne : q ≠ r := fun heq => by simp [heq] at hnodup
      revert hne
      cases p <;> cases q <;> cases r <;> simp
    have hidle : s.engine.state = .idle := by
      obtain ⟨hrest, hnot⟩ := h.course.ready hready
      have hcurrent : s.engine.current = none := by
        match hc : s.engine.current with
        | none => rfl
        | some .recovery => exact absurd hc hnot
        | some (.port p) => exact absurd hc (not_current_of_queued h (hall p))
      exact (hrest.mp hcurrent).resolve_right hfaulted
    exact engineTake_lawful h hready hidle hqueue (by simp)

theorem scCommit_lawful (h : Lawful s) (hready : s.stage = .operating) (x : Session) : Lawful (scCommit p x s) := by
  have hanswered := respond_aside s p 0x04#8 (s.commitResult p x) []
  have hs := h.aside hanswered
  unfold scCommit
  dsimp only
  split
  · next hok =>
    have hstaging := (hanswered.state p).trans (commitResult_ok hok)
    exact hs.endTxn (by decide) (not_current_of_not_inEngine hs.sound (by rw [hstaging]; rfl))
  split
  · next haccepted =>
    obtain ⟨hstaging, hfaulted, hheld⟩ := commitResult_accepted haccepted
    have hqueued := queueTxn_sound hs.sound ((hanswered.state p).trans hstaging) ((hanswered.owned _).symm ▸ hheld)
    have hawaited := setAwaited_aside (queueTxn p (respond p 0x04#8 (s.commitResult p x) [] s)) p
    refine takeWhenTwo_lawful (hqueued.aside hawaited) ?_ ?_ ?_
    · exact hawaited.stage.trans (hanswered.stage.trans hready)
    · rw [hawaited.engine]
      change (respond p 0x04#8 (s.commitResult p x) [] s).engine.state ≠ .faulted
      rwa [hanswered.engine]
    · rw [hawaited.queue]
      change ((respond p 0x04#8 (s.commitResult p x) [] s).commitQueue ++ [p]).length ≤ 2
      rw [hanswered.queue, List.length_append]
      exact Nat.succ_le_succ h.queue.1
  · exact hs

theorem abortResult_ok (h : s.abortResult p x = .ok) (hlogging : (s.txns.get p).state ≠ .logging) :
    inEngine (s.txns.get p).state = false := by
  unfold State.abortResult at h
  split at h
  · cases h
  split at h
  · cases h
  · cases h
  · cases h
  case h_7 hstate => exact absurd hstate hlogging
  all_goals next hstate => rw [hstate]; rfl

/-- A transaction in LOGGING is the engine's, and the engine is in LOGGING. -/
theorem logging_current (h : Sound s) (hlogging : (s.txns.get p).state = .logging) :
    s.engine.current = some (.port p) ∧ s.engine.state = .logging := by
  have hc := (h.port p).inEngine.mp (by rw [hlogging]; rfl)
  refine ⟨hc, ?_⟩
  have hstate := (h.port p).state hc
  rw [hlogging] at hstate
  revert hstate
  cases s.engine.state <;> decide

theorem scAbort_lawful (h : Lawful s) (x : Session) : Lawful (scAbort p x s) := by
  have hanswered := respond_aside s p 0x05#8 (s.abortResult p x) []
  have hs := h.aside hanswered
  unfold scAbort
  dsimp only
  split
  · next hok =>
    split
    · next hlogging =>
      obtain ⟨hc, hstate⟩ := logging_current hs.sound ((hanswered.state p).trans hlogging)
      exact stopEngine_lawful hs hstate hc _
    · next hlogging =>
      refine hs.endTxn (by decide) (not_current_of_not_inEngine hs.sound ?_)
      rw [hanswered.state]
      exact abortResult_ok hok hlogging
  · exact hs

/-! ### The other command words -/

theorem scOpen_aside (operand : Byte) : Aside s (scOpen p x operand s) := by
  unfold scOpen
  split
  · exact respond_aside ..
  · dsimp only
    split
    · exact (respond_aside ..).trans (openLeaseFor_aside ..)
    · exact respond_aside ..

theorem scClose_aside (operand : Byte) : Aside s (scClose p operand s) := by
  unfold scClose
  split
  · exact respond_aside ..
  · split
    · exact (respond_aside ..).trans (endLease_aside ..)
    · exact respond_aside ..

theorem scNextEvent_aside : Aside s (scNextEvent p x s) := by
  unfold scNextEvent
  split
  · exact respond_aside ..
  · split
    · exact respond_aside ..
    · exact (records_aside ..).trans (respond_aside ..)

theorem performVerb_lawful (h : Lawful s) (hready : s.stage = .operating) (command : Word) :
    Lawful (performVerb p x command s) := by
  unfold performVerb
  dsimp only
  split
  · exact h.aside (scOpen_aside _)
  · exact h.aside (scClose_aside _)
  · exact scBegin_lawful h x
  · exact scCommit_lawful h hready x
  · exact scAbort_lawful h x
  · exact h.aside (respond_aside ..)
  · exact h.aside scNextEvent_aside
  · exact h.aside ((setAlertMask_aside ..).trans (respond_aside ..))
  · exact endSession_lawful h _
  · exact h.aside (respond_aside ..)

theorem performCommand_lawful (h : Lawful s) (hready : s.stage = .operating) (command : Word) :
    Lawful (performCommand p x command s) := by
  unfold performCommand
  split
  · exact h.aside ((setSession_aside ..).trans (raise_aside ..))
  · exact performVerb_lawful h hready command

end Verbs

/-! ### Client cycles (chapters 1 and 10) -/

section Cycles

variable {s : State} {p : Port}

theorem applyRead_aside (x : Addr) (course : ReadCourse) : Aside s (applyRead p x course s) := by
  cases course with
  | fill => exact completeCycle_aside ..
  | answered v => exact completeCycle_aside ..
  | forward => exact requestClient_aside ..

theorem decideAccess_lawful (h : Lawful s) (hready : s.stage = .operating) (kind : AccessKind) (x : Addr) :
    Lawful (decideAccess p kind x s) := by
  have hrestarted := restartIdle_aside s p
  have hs := h.aside hrestarted
  have hop := hrestarted.stage.trans hready
  unfold decideAccess
  dsimp only
  split
  · cases kind with
    | read => exact hs.aside ((setSession_aside ..).trans (completeCycle_aside ..))
    | write d => exact (performCommand_lawful hs hop d).aside (completeCycle_aside ..)
  · cases kind with
    | read => exact hs.aside (applyRead_aside ..)
    | write d => exact applyWrite_lawful hs (fun _ => hop) writeCourse_fits

theorem settleCycle_lawful (h : Lawful s) (kind : AccessKind) (x : Addr) : Lawful (settleCycle p kind x s) := by
  unfold settleCycle
  split
  · exact h.aside (completeCycle_aside ..)
  split
  · next hready => exact decideAccess_lawful h (by simpa [State.ready] using hready) kind x
  · exact h.aside ((setPort_aside ..).trans (completeCycle_aside ..))

end Cycles

/-! ### The entry into the fence (08 R158) -/

section Entry

variable {s : State}

theorem fenceEngine_lawful (h : Lawful s) (hready : s.stage = .operating) : Lawful (fenceEngine s) := by
  unfold fenceEngine
  split
  · next hlogging =>
    have hcurrent : ∃ p, s.engine.current = some (.port p) := by
      obtain ⟨hrest, hnot⟩ := h.sound.course.ready hready
      match hc : s.engine.current with
      | none => exact absurd (hrest.mp hc) (by rw [hlogging]; decide)
      | some .recovery => exact absurd hc hnot
      | some (.port p) => exact ⟨p, rfl⟩
    obtain ⟨p, hc⟩ := hcurrent
    exact stopEngine_lawful h hlogging hc _
  · exact h

theorem enterFence_lawful (h : Lawful s) (hready : s.stage = .operating) :
    Lawful (enterFence { s with pwrgood := false }) := by
  have hfenced : Aside s { s with pwrgood := false, fence := .fenced } :=
    ⟨rfl, rfl, rfl, rfl, rfl, rfl, rfl, fun _ => rfl, fun _ => rfl, rfl, rfl⟩
  have hstage := (enterFence_operates { s with pwrgood := false }).stage
  unfold enterFence at hstage ⊢
  dsimp only at hstage ⊢
  have hentered := h.aside (hfenced.trans (raise_aside _ .fenceEntered .part none 0#16 0#16))
  have hclosed := endSession_lawful (p := .b) (endSession_lawful (p := .a) hentered .fence) .fence
  have hcleared := (hclosed.aside (fenceSqr_aside _ .a)).aside (fenceSqr_aside _ .b)
  refine fenceEngine_lawful (endQueued_lawful hcleared.sound hcleared.queue.1 (by decide)) ?_
  exact ((fenceEngine_operates _).stage.symm.trans hstage).trans hready

end Entry

end Sys2Proof.Machine

/-! SUPPORT. Recovery over the laws: its passes, and its ends, after which READY rises (07 R146 to R155). -/

namespace Sys2Proof.Machine

/-! ### Before READY -/

/-- No port has an entry, a claim or an accepted transaction. -/
structure Unstarted (s : State) : Prop where
  owned : ∀ p, s.owned (.port p) = []
  claim : ∀ (w : Fin 16) p, s.claim w ≠ some p
  accepted : ∀ p, acceptedState (s.txns.get p).state = false
  queue : s.commitQueue = []

section BeforeReady

variable {s t : State}

theorem unstarted_of_lawful (h : Lawful s) (hbefore : s.stage ≠ .operating) : Unstarted s := by
  obtain ⟨hsound, -, hqueue⟩ := h
  have hempty (p : Port) : s.owned (.port p) = [] := by
    by_contra hne
    exact hbefore ((hsound.port p).ready hne).1
  have hqueue := hqueue (.inr hbefore)
  refine ⟨hempty, fun w p hw => ?_, fun p => ?_, hqueue⟩
  · obtain ⟨-, -, e, he, -⟩ := (hsound.port p).claims w hw
    rw [hempty p] at he
    cases he
  · by_contra haccepted
    exact (hsound.port p).held (by simpa using haccepted) (hempty p)

theorem Unstarted.congr (h : Unstarted s) (howned : ∀ p, t.owned (.port p) = s.owned (.port p))
    (hclaims : t.claims = s.claims) (htxns : ∀ p, (t.txns.get p).state = (s.txns.get p).state)
    (hqueue : t.commitQueue = s.commitQueue) : Unstarted t where
  owned p := (howned p).trans (h.owned p)
  claim w p := by
    rw [State.claim, hclaims]
    exact h.claim w p
  accepted p := by rw [htxns, h.accepted]
  queue := hqueue.trans h.queue

theorem Unstarted.txnSound (h : Unstarted s) {p : Port} (hcurrent : s.engine.current ≠ some (.port p)) :
    TxnSound s p := by
  have haccepted := h.accepted p
  constructor
  case positions => rw [h.owned]; rfl
  case fits => rw [h.owned]; exact Nat.zero_le _
  case distinct => rw [h.owned]; exact List.nodup_nil
  case ready => exact fun hne => absurd (h.owned p) hne
  case claims => exact fun w hw => absurd hw (h.claim w p)
  case claimed => rw [h.owned]; nofun
  case inEngine =>
    refine iff_of_false (fun hin => ?_) hcurrent
    revert haccepted hin
    cases (s.txns.get p).state <;> decide
  case state => exact fun hc => absurd hc hcurrent
  case queued =>
    rw [h.queue]
    refine iff_of_false nofun fun hq => ?_
    rw [hq] at haccepted
    cases haccepted
  case held => exact fun ha => Bool.noConfusion (haccepted.symm.trans ha)

/-- Then every entry is a RECOVERY entry. -/
theorem Unstarted.length (h : Unstarted s) : s.sb.length = (s.owned .recovery).length := by
  have hall : s.owned .recovery = s.sb := by
    refine List.filter_eq_self.mpr fun e he => ?_
    match ho : e.owner with
    | .recovery => exact decide_eq_true rfl
    | .port p =>
      have hmem := mem_owned.mpr ⟨he, ho⟩
      rw [h.owned p] at hmem
      cases hmem
  rw [hall]

theorem journalEntries_le (h : ProfileLaw s) (hstage : s.stage = .recovery ∨ s.stage = .operating) :
    s.journalEntries ≤ Config.stageCapacity := by
  obtain ⟨-, -, -, hsize, -⟩ := h.legal hstage
  have hlimit : s.journalEntries = 0 ∨ 16 ≤ s.journalEntries ∧ s.journalEntries ≤ 512 := by
    unfold checkSize at hsize
    dsimp only at hsize
    split at hsize
    · next hj => exact hj
    · cases hsize
  simp only [Config.stageCapacity]
  omega

end BeforeReady

/-! ### READY rises (07 R155) -/

/-- The RECOVERY entries stand at positions 0 to n − 1, and n is at most J (05 R88, R101). -/
structure EntriesSound (s : State) : Prop where
  positions : (s.owned .recovery).map Entry.position = List.range (s.owned .recovery).length
  fits : (s.owned .recovery).length ≤ s.journalEntries

theorem RecoverySound.entries {s : State} (h : RecoverySound s) : EntriesSound s := ⟨h.positions, h.fits⟩

theorem EntriesSound.congr {s t : State} (h : EntriesSound s) (hactive : t.active = s.active)
    (howned : t.owned .recovery = s.owned .recovery) : EntriesSound t := by
  refine ⟨by rw [howned, h.positions], ?_⟩
  rw [howned, State.journalEntries, hactive]
  exact h.fits

/-- A state from which READY rises: nothing has started, the engine is at rest, and RECOVERY entries stand only with
the engine FAULTED. -/
structure Ripe (s : State) : Prop where
  legal : ∃ f, s.profile = some f ∧ Legal f
  unstarted : Unstarted s
  phase : s.recovery.phase = .none
  current : s.engine.current = none
  word : s.engine.word = none
  request : s.waiting.engine = none
  free : s.engineInFlight = false
  state : s.engine.state = .idle ∧ s.owned .recovery = [] ∨ s.engine.state = .faulted
  entries : EntriesSound s

section Rise

variable {s t : State}

theorem readyRise_frame (s : State) : readyRise s =
    { s with stage := .operating, fence := (readyRise s).fence, raised := (readyRise s).raised } := by
  rw [readyRiseReports s]

theorem lawful_of_risen {f : Profile} (hprofile : t.profile = some f) (hlegal : Legal f) (hunstarted : Unstarted t)
    (hstage : t.stage = .operating) (hphase : t.recovery.phase = .none) (hcurrent : t.engine.current = none)
    (hstate : t.engine.state = .idle ∨ t.engine.state = .faulted) (hrecovery : RecoverySound t)
    (hword : WordLaw t) : Lawful t := by
  have hlaw : ProfileLaw t := .of_legal hlegal hprofile
  have hnone : t.engine.current ≠ some .recovery := by rw [hcurrent]; nofun
  refine ⟨⟨⟨hlaw, fun p => hunstarted.txnSound (by rw [hcurrent]; nofun), hrecovery, ?_, ?_, ?_, ?_⟩, hword⟩,
    .of_nil hunstarted.queue⟩
  · rw [hunstarted.length]
    exact hrecovery.fits.trans (journalEntries_le hlaw (.inr hstage))
  · rw [hunstarted.queue]
    exact List.nodup_nil
  · rw [CourseLaw, hstage, hphase]
    exact ⟨nofun, fun hne => absurd rfl hne, nofun, nofun, fun _ => ⟨iff_of_true hcurrent hstate, hnone⟩, fun _ => rfl⟩
  · rw [SlotLaw, hstage, hphase]
    exact ⟨nofun, nofun, nofun, nofun, nofun, nofun⟩

theorem Ripe.rise (h : Ripe s) : Lawful (readyRise s) := by
  obtain ⟨⟨f, hf, hlegal⟩, hunstarted, hphase, hcurrent, hword, hrequest, hfree, hstate, hentries⟩ := h
  have hframe := readyRise_frame s
  obtain ⟨t, ht⟩ : ∃ t, t = readyRise s := ⟨_, rfl⟩
  rw [← ht] at hframe ⊢
  clear ht
  have hengine : t.engine = s.engine := (congrArg State.engine hframe :)
  have hprofile : t.profile = s.profile := (congrArg State.profile hframe :)
  have hactive : t.active = s.active := congrArg (·.getD noProfile) hprofile
  have hstage : t.stage = .operating := (congrArg State.stage hframe :)
  have howned (o : Owner) : t.owned o = s.owned o := (congrArg (fun v => State.owned v o) hframe :)
  have htxns : t.txns = s.txns := (congrArg State.txns hframe :)
  have hwaiting : t.waiting = s.waiting := (congrArg State.waiting hframe :)
  refine lawful_of_risen (hprofile.trans hf) hlegal (hunstarted.congr (fun p => howned _)
    (congrArg State.claims hframe :) (fun p => by rw [htxns]) (congrArg State.commitQueue hframe :)) hstage
    ((congrArg (fun v => v.recovery.phase) hframe :).trans hphase) (by rw [hengine, hcurrent]) ?_ ?_ ?_
  · rw [hengine]
    exact hstate.imp_left And.left
  · obtain ⟨hpositions, hfits⟩ := hentries.congr hactive (howned _)
    refine ⟨hpositions, hfits, fun hne => .inr ⟨hstage, ?_⟩⟩
    rw [hengine]
    exact hstate.resolve_left fun hidle => hne ((howned _).trans hidle.2)
  · exact .of_rest (by rw [hengine, hword]) (by rw [hwaiting, hrequest])
      ((engineInFlight_congr (congrArg State.inFlight hframe :)).trans hfree)

theorem Ripe.raise (h : Ripe s) (n : EventName) (who : Concerned) (w : Option (Fin 16)) (hi lo : Word) :
    Ripe (raise n who w hi lo s) := by
  have a := raise_aside s n who w hi lo
  obtain ⟨t, ht⟩ : ∃ t, t = Machine.raise n who w hi lo s := ⟨_, rfl⟩
  rw [← ht] at a ⊢
  obtain ⟨hlegal, hunstarted, hphase, hcurrent, hword, hrequest, hfree, hstate, hentries⟩ := h
  refine ⟨by rw [a.profile]; exact hlegal, hunstarted.congr (fun p => a.owned _) a.claims a.state a.queue,
    by rw [a.recovery, hphase], by rw [a.engine, hcurrent], by rw [a.engine, hword], by rw [a.request, hrequest],
    (engineInFlight_congr a.inFlight).trans hfree, ?_, hentries.congr a.active (a.owned _)⟩
  rw [a.engine, a.owned]
  exact hstate

end Rise

end Sys2Proof.Machine

/-! SUPPORT. The steps of recovery over the laws: the header, the passes over the slots, and the words and ends of
formatting, of a damaged header and of replay (07 R146 to R152). -/

namespace Sys2Proof.Machine

/-! ### In recovery -/

/-- What holds of a part in recovery, whatever the pass. -/
structure Recovering (s : State) : Prop where
  profile : ProfileLaw s
  stage : s.stage = .recovery
  unstarted : Unstarted s
  entries : EntriesSound s
  area : s.journalEntries ≠ 0
  current : s.engine.current = none ∧ s.owned .recovery = [] ∨ s.engine.current = some .recovery

namespace Recovering

variable {s t : State}

theorem of_lawful (h : Lawful s) (hstage : s.stage = .recovery) : Recovering s := by
  have hcourse := h.sound.course
  refine ⟨h.sound.profile, hstage, unstarted_of_lawful h (by rw [hstage]; nofun), h.sound.recovery.entries,
    h.sound.slot.area hstage, ?_⟩
  match hc : s.engine.current with
  | none =>
    refine .inl ⟨rfl, ?_⟩
    by_contra hne
    obtain ⟨-, hs⟩ | ⟨hs, -⟩ := h.sound.recovery.place hne
    · cases hc.symm.trans hs
    · cases hstage.symm.trans hs
  | some .recovery => exact .inr rfl
  | some (.port p) => cases hstage.symm.trans (stage_of_current hcourse hc)

/-- Neither the pass nor the engine's state, word and request matter. -/
theorem congr (h : Recovering s) (hprofile : t.profile = s.profile) (hstage : t.stage = s.stage) (hsb : t.sb = s.sb)
    (hclaims : t.claims = s.claims) (htxns : t.txns = s.txns) (hqueue : t.commitQueue = s.commitQueue)
    (hcurrent : t.engine.current = s.engine.current) : Recovering t := by
  have hactive : t.active = s.active := congrArg (·.getD noProfile) hprofile
  have howned (o : Owner) : t.owned o = s.owned o := by rw [State.owned, State.owned, hsb]
  refine ⟨h.profile.congr hprofile hstage, hstage.trans h.stage,
    h.unstarted.congr (fun p => howned _) hclaims (fun p => by rw [htxns]) hqueue, h.entries.congr hactive (howned _),
    ?_, ?_⟩
  · rw [State.journalEntries, hactive]
    exact h.area
  · rw [hcurrent, howned]
    exact h.current

theorem not_port (h : Recovering s) (p : Port) : s.engine.current ≠ some (.port p) := by
  obtain ⟨hc, -⟩ | hc := h.current <;> rw [hc] <;> simp

theorem courseLaw (h : Recovering s) (hpass : s.recovery.phase ≠ .none → s.engine.state = .replayLoad)
    (hearly : s.recovery.phase = .header ∨ s.recovery.phase = .check → s.engine.current = none)
    (hload : s.recovery.phase = .load → s.engine.current = some .recovery) : CourseLaw s := by
  refine ⟨?_, fun hne => ⟨h.stage, hpass hne⟩, hearly, hload, ?_, fun hported => ?_⟩
  · rw [h.stage]
    nofun
  · rw [h.stage]
    nofun
  · obtain ⟨p, hp⟩ := (ported_iff _).mp hported
    exact absurd hp (h.not_port p)

theorem grounded (h : Recovering s) (hcourse : CourseLaw s) (hslot : SlotLaw s) : Grounded s := by
  refine ⟨h.profile, fun p => h.unstarted.txnSound (h.not_port p),
    ⟨h.entries.positions, h.entries.fits, fun hne => .inl ⟨h.stage, ?_⟩⟩, ?_, ?_, hcourse, hslot⟩
  · exact h.current.resolve_left fun hnone => hne hnone.2
  · rw [h.unstarted.length]
    exact h.entries.fits.trans (journalEntries_le h.profile (.inl h.stage))
  · rw [h.unstarted.queue]
    exact List.nodup_nil

/-- A word is placed in hand outside the passes. -/
theorem place (h : Recovering s) (hphase : s.recovery.phase = .none) {role : WordRole} (hfits : roleFits s role)
    (hrange : roleInRange s role) (hfree : s.engineInFlight = false) : Lawful (placeWord role s) := by
  have hcourse : CourseLaw s :=
    h.courseLaw (fun hne => absurd hphase hne) (by rw [hphase]; nofun) (by rw [hphase]; nofun)
  have hslot : SlotLaw s := by
    rw [SlotLaw, hphase]
    exact ⟨nofun, nofun, nofun, nofun, nofun, fun _ => h.area⟩
  exact ⟨(h.grounded hcourse hslot).place hfits hrange hfree, .of_nil h.unstarted.queue⟩

/-- A pass asks for its next word. -/
theorem request (h : Recovering s) (hstate : s.engine.state = .replayLoad)
    (hearly : s.recovery.phase = .header ∨ s.recovery.phase = .check → s.engine.current = none)
    (hload : s.recovery.phase = .load → s.engine.current = some .recovery) (hslot : SlotLaw s)
    (hword : s.engine.word = none) (hfree : s.engineInFlight = false) (x : Addr) :
    Lawful (requestEngineRead x s) := by
  have k := requestEngineRead_handles x s
  have hground := h.grounded (h.courseLaw (fun _ => hstate) hearly hload) hslot
  have hstage : (requestEngineRead x s).stage = .recovery := h.stage
  refine ⟨⟨k.grounded hground, fun w hw => ?_, fun q hq => ?_, fun a ha he => ?_, ?_, ?_, fun _ => hword⟩,
    .of_nil h.unstarted.queue⟩
  · cases hword.symm.trans hw
  · obtain rfl : _ = q := Option.some.inj hq
    exact ⟨trivial, hfree⟩
  · exact absurd he (not_engine_of_free hfree a ha)
  · rw [hstage]
    nofun
  · rw [hstage]
    nofun

/-- Recovery ends, and READY can rise. -/
theorem ripe (h : Recovering s) (hfree : s.engineInFlight = false) {e : EngineState}
    (he : e = .idle ∧ s.owned .recovery = [] ∨ e = .faulted) (r : RecoveryResult) : Ripe (endRecovery e r s) := by
  have hlegal : ∃ f, s.profile = some f ∧ Legal f := by
    obtain ⟨f, hf⟩ := Option.ne_none_iff_exists'.mp (h.profile.2 (.inl h.stage))
    exact ⟨f, hf, h.profile.1 f hf⟩
  exact ⟨hlegal, h.unstarted.congr (fun _ => rfl) rfl (fun _ => rfl) rfl, rfl, rfl, rfl, rfl, hfree, he,
    h.entries.congr rfl rfl⟩

end Recovering

end Sys2Proof.Machine

/-! SUPPORT. The words of the recovery passes over the laws (07 R146 to R150). -/

namespace Sys2Proof.Machine

/-! ### The slot laws of a pass -/

section Slots

variable {s t : State}

theorem slotLaw_header (hphase : s.recovery.phase = .header) (hslots : s.recovery.slots = [])
    (hloaded : s.recovery.loaded = []) (harea : s.journalEntries ≠ 0) : SlotLaw s := by
  rw [SlotLaw, hphase]
  exact ⟨fun _ => hslots, fun _ => hloaded, nofun, nofun, nofun, fun _ => harea⟩

theorem slotLaw_check (hphase : s.recovery.phase = .check) (hloaded : s.recovery.loaded = [])
    (hlow : 1 ≤ s.loggedCount) (hhigh : s.loggedCount ≤ s.journalEntries)
    (hslots : s.recovery.slots.length < 3 * s.loggedCount) (harea : s.journalEntries ≠ 0) : SlotLaw s := by
  rw [SlotLaw, hphase]
  exact ⟨nofun, fun _ => hloaded, fun _ => ⟨hlow, hhigh⟩, fun _ => hslots, nofun, fun _ => harea⟩

theorem slotLaw_load (hphase : s.recovery.phase = .load) (hlow : 1 ≤ s.loggedCount)
    (hhigh : s.loggedCount ≤ s.journalEntries) (hloaded : s.recovery.loaded.length < 3 * s.loggedCount)
    (hcount : s.entryCount .recovery = s.recovery.loaded.length / 3) (harea : s.journalEntries ≠ 0) : SlotLaw s := by
  rw [SlotLaw, hphase]
  exact ⟨nofun, nofun, fun _ => ⟨hlow, hhigh⟩, nofun, fun _ => ⟨hloaded, hcount⟩, fun _ => harea⟩

theorem recovering_of_phase (h : Lawful s) (hphase : s.recovery.phase ≠ .none) : Recovering s :=
  .of_lawful h (h.sound.course.pass hphase).1

theorem word_none_of_phase (h : Lawful s) (hphase : s.recovery.phase ≠ .none) : s.engine.word = none :=
  h.sound.word.pass (.inr hphase)

theorem Recovering.read (h : Recovering s) (r : Recovery) : Recovering { s with recovery := r, inFlight := none } :=
  h.congr rfl rfl rfl rfl rfl rfl rfl

/-- A damaged header is found: its clearing write begins. -/
theorem findDamaged_lawful (h : Recovering s) (hcurrent : s.engine.current = none) (hfree : s.engineInFlight = false)
    (reason : Word) : Lawful (findDamaged reason s) := by
  unfold findDamaged
  rw [raise_frame]
  exact (h.congr (t := setEngineState .clearing { setPhase .none s with raised := _ }) rfl rfl rfl rfl rfl rfl
    rfl).place rfl ⟨rfl, hcurrent, h.stage⟩ trivial hfree

end Slots

/-! ### The header (07 R146 to R149) -/

section Header

variable {s : State}

theorem checkLogged_lawful (h : Recovering s) (hcurrent : s.engine.current = none)
    (hstate : s.engine.state = .replayLoad) (hslots : s.recovery.slots = []) (hloaded : s.recovery.loaded = [])
    (hword : s.engine.word = none) (hfree : s.engineInFlight = false) : Lawful (checkLogged s) := by
  unfold checkLogged
  split
  · exact findDamaged_lawful h hcurrent hfree _
  next hcount =>
  split
  · exact findDamaged_lawful h hcurrent hfree _
  · have hchecking : Recovering (setPhase .check s) := h.congr rfl rfl rfl rfl rfl rfl rfl
    refine hchecking.request hstate (fun _ => hcurrent) nofun
      (slotLaw_check rfl hloaded ?_ ?_ ?_ h.area) hword hfree _
    · change 1 ≤ s.loggedCount
      omega
    · change s.loggedCount ≤ s.journalEntries
      omega
    · change s.recovery.slots.length < 3 * s.loggedCount
      rw [hslots, List.length_nil]
      omega

theorem classifyHeader_lawful (h : Recovering s) (hcurrent : s.engine.current = none)
    (hstate : s.engine.state = .replayLoad) (hslots : s.recovery.slots = []) (hloaded : s.recovery.loaded = [])
    (hword : s.engine.word = none) (hfree : s.engineInFlight = false) : Lawful (classifyHeader s) := by
  unfold classifyHeader
  split
  · exact checkLogged_lawful h hcurrent hstate hslots hloaded hword hfree
  split
  · refine (h.ripe hfree (.inl ⟨rfl, ?_⟩) .clear).rise
    exact (h.current.resolve_right (by rw [hcurrent]; nofun)).2
  · have hformatting : Recovering (setEngineState .clearing (setPhase .none s)) := h.congr rfl rfl rfl rfl rfl rfl rfl
    exact hformatting.place rfl ⟨rfl, hcurrent, h.stage⟩ ⟨Nat.le_refl 1, by decide⟩ hfree

theorem takeHeaderWord_lawful (h : Lawful s) (hphase : s.recovery.phase = .header) (w : Word) :
    Lawful (takeHeaderWord w s) := by
  have hpass : s.recovery.phase ≠ .none := by rw [hphase]; nofun
  have hword := word_none_of_phase h hpass
  obtain ⟨hslots, hloaded, -⟩ := h.sound.slot
  have hcurrent := h.sound.course.early (.inl hphase)
  have hstate := (h.sound.course.pass hpass).2
  have hr := (recovering_of_phase h hpass).read { s.recovery with header := s.recovery.header ++ [w] }
  unfold takeHeaderWord
  dsimp only
  split
  · refine hr.request hstate (fun _ => hcurrent) (fun hload => ?_)
      (slotLaw_header hphase (hslots hphase) (hloaded (.inl hphase)) hr.area) hword rfl _
    cases hphase.symm.trans hload
  · exact classifyHeader_lawful hr hcurrent hstate (hslots hphase) (hloaded (.inl hphase)) hword rfl

end Header

/-! ### The checking pass (07 R149) -/

section Check

variable {s : State}

theorem Recovering.load (h : Recovering s) :
    Recovering (setPhase .load (s.setEngine { s.engine with current := some .recovery })) :=
  ⟨h.profile.congr rfl rfl, h.stage, h.unstarted.congr (fun _ => rfl) rfl (fun _ => rfl) rfl, h.entries.congr rfl rfl,
    h.area, .inr rfl⟩

theorem takeCheckWord_lawful (h : Lawful s) (hphase : s.recovery.phase = .check) (w : Word) :
    Lawful (takeCheckWord w s) := by
  have hpass : s.recovery.phase ≠ .none := by rw [hphase]; nofun
  have hword := word_none_of_phase h hpass
  obtain ⟨-, hloaded, hcount, -⟩ := h.sound.slot
  obtain ⟨hlow, hhigh⟩ := hcount (.inl hphase)
  have hnone := hloaded (.inr hphase)
  have hcurrent := h.sound.course.early (.inr hphase)
  have hstate := (h.sound.course.pass hpass).2
  have hr := (recovering_of_phase h hpass).read { s.recovery with slots := s.recovery.slots ++ [w] }
  unfold takeCheckWord
  dsimp only
  split
  · next hmore =>
    refine hr.request hstate (fun _ => hcurrent) (fun hload => ?_)
      (slotLaw_check hphase hnone hlow hhigh hmore hr.area) hword rfl _
    cases hphase.symm.trans hload
  split
  · have hempty := (hr.current.resolve_right (by rw [hcurrent]; nofun)).2
    refine hr.load.request hstate nofun (fun _ => rfl) (slotLaw_load rfl hlow hhigh ?_ ?_ hr.area) hword rfl _
    · change s.recovery.loaded.length < 3 * s.loggedCount
      rw [hnone, List.length_nil]
      omega
    · change s.entryCount .recovery = s.recovery.loaded.length / 3
      rw [hnone, entryCount_eq]
      exact congrArg List.length hempty
  · exact findDamaged_lawful hr hcurrent rfl _

end Check

/-! ### The loading pass (07 R150) -/

section Load

variable {s : State}

theorem joinLoaded_of_third (h : s.recovery.loaded.length % 3 = 0) : joinLoaded s =
    s.setStage (s.sb ++ [slotEntry s.recovery.loaded (s.recovery.loaded.length / 3 - 1)]) := if_pos h

theorem joinLoaded_of_not_third (h : s.recovery.loaded.length % 3 ≠ 0) : joinLoaded s = s := if_neg h

/-- With the third word of each slot one entry has joined, at the next position. -/
theorem joinLoaded_recovering (h : Recovering s) (hcurrent : s.engine.current = some .recovery) {n : Nat}
    (hlength : s.recovery.loaded.length = n + 1) (hcount : (s.owned .recovery).length = n / 3)
    (hfits : (n + 1) / 3 ≤ s.journalEntries) :
    Recovering (joinLoaded s) ∧ ((joinLoaded s).owned .recovery).length = (n + 1) / 3 := by
  by_cases hthird : s.recovery.loaded.length % 3 = 0
  · rw [joinLoaded_of_third hthird]
    let e := slotEntry s.recovery.loaded (s.recovery.loaded.length / 3 - 1)
    have howner : e.owner = .recovery := rfl
    have hposition : e.position = (s.owned .recovery).length := by
      change s.recovery.loaded.length / 3 - 1 = _
      omega
    have howned (o : Owner) :
        (s.setStage (s.sb ++ [e])).owned o = s.owned o ++ [e].filter (fun x => decide (x.owner = o)) :=
      List.filter_append ..
    have hrecovery : (s.setStage (s.sb ++ [e])).owned .recovery = s.owned .recovery ++ [e] := by
      rw [howned, List.filter_singleton, howner]
      rfl
    have hport (p : Port) : (s.setStage (s.sb ++ [e])).owned (.port p) = s.owned (.port p) := by
      rw [howned, List.filter_singleton, howner]
      exact List.append_nil _
    have hnew : ((s.setStage (s.sb ++ [e])).owned .recovery).length = (n + 1) / 3 := by
      rw [hrecovery, List.length_append, List.length_singleton]
      omega
    refine ⟨⟨h.profile.congr rfl rfl, h.stage, h.unstarted.congr hport rfl (fun _ => rfl) rfl, ⟨?_, ?_⟩, h.area,
      .inr hcurrent⟩, hnew⟩
    · rw [hrecovery, List.map_append, h.entries.positions, List.length_append, List.length_singleton, List.range_succ]
      exact congrArg (fun k => List.range _ ++ [k]) hposition
    · rw [hnew]
      exact hfits
  · rw [joinLoaded_of_not_third hthird]
    refine ⟨h, ?_⟩
    omega

theorem takeLoadWord_lawful (h : Lawful s) (hphase : s.recovery.phase = .load) (w : Word) :
    Lawful (takeLoadWord w s) := by
  have hpass : s.recovery.phase ≠ .none := by rw [hphase]; nofun
  have hword := word_none_of_phase h hpass
  obtain ⟨-, -, hcount, -, hload, -⟩ := h.sound.slot
  obtain ⟨hlow, hhigh⟩ := hcount (.inr hphase)
  obtain ⟨hloaded, hjoined⟩ := hload hphase
  have hcurrent := h.sound.course.load hphase
  have hstate := (h.sound.course.pass hpass).2
  have hr := (recovering_of_phase h hpass).read { s.recovery with loaded := s.recovery.loaded ++ [w] }
  rw [entryCount_eq] at hjoined
  obtain ⟨hv, hentries⟩ := joinLoaded_recovering hr hcurrent (n := s.recovery.loaded.length)
    (by rw [List.length_append, List.length_singleton]) hjoined (by
      change (s.recovery.loaded.length + 1) / 3 ≤ s.journalEntries
      omega)
  have hframe := joinLoaded_eq
    { s with recovery := { s.recovery with loaded := s.recovery.loaded ++ [w] }, inFlight := none }
  unfold takeLoadWord
  dsimp only
  generalize joinLoaded
    { s with recovery := { s.recovery with loaded := s.recovery.loaded ++ [w] }, inFlight := none } = v
    at hv hentries hframe
  have hrecovery : v.recovery = { s.recovery with loaded := s.recovery.loaded ++ [w] } :=
    (congrArg State.recovery hframe :)
  have hengine : v.engine = s.engine := (congrArg State.engine hframe :)
  have hfree : v.engineInFlight = false := engineInFlight_of_none (congrArg State.inFlight hframe :)
  have hlength : v.recovery.loaded.length = s.recovery.loaded.length + 1 := by
    rw [hrecovery, List.length_append, List.length_singleton]
  have hlogged : v.loggedCount = s.loggedCount := by rw [State.loggedCount, State.headerRead, hrecovery]; rfl
  have harea : v.journalEntries = s.journalEntries :=
    congrArg (fun f : Option Profile => (f.getD noProfile).journalCapacity.toNat) (congrArg State.profile hframe :)
  have hload : v.recovery.phase = .load := by rw [hrecovery]; exact hphase
  split
  · next hmore =>
    refine hv.request (by rw [hengine, hstate]) (by rw [hload]; nofun) (fun _ => by rw [hengine, hcurrent])
      (slotLaw_load hload (by rwa [hlogged]) (by rwa [hlogged, harea]) hmore ?_ hv.area)
      (by rw [hengine, hword]) hfree _
    rw [entryCount_eq, hentries, hlength]
  · next hlast =>
    have happlying : Recovering (setEngineState .applying (setPhase .none v)) := hv.congr rfl rfl rfl rfl rfl rfl rfl
    refine happlying.place rfl ⟨rfl, ?_⟩ ?_ hfree
    · change v.engine.current ≠ none
      rw [hengine, hcurrent]
      nofun
    · change 0 < v.engineCount
      rw [engineCount_of_current (by rw [hengine, hcurrent]), entryCount_eq, hentries]
      omega

end Load

end Sys2Proof.Machine

/-! SUPPORT. The completions of the engine's words over the laws, in operation and in recovery (06 R114 to R130,
07 R147 to R152). -/

namespace Sys2Proof.Machine

/-! ### A word is written (06 R118 to R123; 07 R147, R149, R151) -/

section Done

variable {s : State} {p : Port}

theorem stage_of_recovery (h : CourseLaw s) {role : WordRole} (hfits : roleFits s role)
    (hcurrent : s.engine.current = some .recovery) : s.stage = .recovery := by
  obtain ⟨hstage, -⟩ := working_of_roleFits h hfits
  exact hstage.resolve_right fun hready => (h.ready hready).2 hcurrent

theorem Recovering.no_entries (h : Recovering s) (hcurrent : s.engine.current = none) : s.owned .recovery = [] :=
  (h.current.resolve_right (by rw [hcurrent]; nofun)).2

theorem Recovering.withoutEntries (h : Recovering s) (hcurrent : s.engine.current = some .recovery) :
    Recovering (s.setStage (s.sb.filter (fun e => decide (e.owner ≠ .recovery)))) ∧
      (s.setStage (s.sb.filter (fun e => decide (e.owner ≠ .recovery)))).owned .recovery = [] := by
  have hport (p : Port) :
      (s.setStage (s.sb.filter (fun e => decide (e.owner ≠ .recovery)))).owned (.port p) = s.owned (.port p) :=
    owned_filter_other rfl fun e he => by simp [he]
  have hnone : (s.setStage (s.sb.filter (fun e => decide (e.owner ≠ .recovery)))).owned .recovery = [] :=
    owned_filter_none rfl fun e he => by simp [he]
  refine ⟨⟨h.profile.congr rfl rfl, h.stage, h.unstarted.congr hport rfl (fun _ => rfl) rfl, ⟨?_, ?_⟩, h.area,
    .inr hcurrent⟩, hnone⟩
  · rw [hnone]
    rfl
  · rw [hnone]
    exact Nat.zero_le _

theorem replayDone_lawful (h : Recovering s) (hcurrent : s.engine.current = some .recovery)
    (hfree : s.engineInFlight = false) : Lawful (replayDone s) := by
  obtain ⟨hleft, hnone⟩ := h.withoutEntries hcurrent
  exact ((hleft.ripe hfree (.inl ⟨rfl, hnone⟩) .replayed).raise .replayed .part none _ _).rise

theorem replayFault_lawful (h : Recovering s) (hfree : s.engineInFlight = false) (phase : BitVec 4) (x : Addr) :
    Lawful (replayFault phase x s) :=
  ((h.ripe hfree (.inr rfl) .replayFault).raise .replayFault .part none _ _).rise

theorem formatDone_lawful (h : Recovering s) (hcurrent : s.engine.current = none) (hfree : s.engineInFlight = false) :
    Lawful (formatDone s) :=
  ((h.ripe hfree (.inl ⟨rfl, h.no_entries hcurrent⟩) .formatted).raise .journalFormatted .part none _ _).rise

theorem damagedDone_lawful (h : Recovering s) (hcurrent : s.engine.current = none) (hfree : s.engineInFlight = false) :
    Lawful (damagedDone s) := (h.ripe hfree (.inl ⟨rfl, h.no_entries hcurrent⟩) .damaged).rise

theorem beginClearing_recovery_lawful (h : Recovering s) (hphase : s.recovery.phase = .none)
    (hcurrent : s.engine.current = some .recovery) (hfree : s.engineInFlight = false) : Lawful (beginClearing s) := by
  rw [beginClearing_of_recovery hcurrent]
  have hclearing : Recovering (setEngineState .clearing s) := h.congr rfl rfl rfl rfl rfl rfl rfl
  refine hclearing.place hphase ⟨rfl, ?_⟩ trivial hfree
  change s.engine.current ≠ none
  rw [hcurrent]
  nofun

/-- After the last home word: clearing, for a port's transaction or for replay. -/
theorem clearing_lawful (h : Lawful s) {k : Nat} (hfits : roleFits s (.home k)) (hfree : s.engineInFlight = false) :
    Lawful (beginClearing s) := by
  match hc : s.engine.current with
  | none => exact absurd hc hfits.2
  | some (.port p) => exact beginClearing_lawful h hc hfree
  | some .recovery =>
    have hr : Recovering s := .of_lawful h (stage_of_recovery h.sound.course hfits hc)
    exact beginClearing_recovery_lawful hr (working_of_roleFits h.sound.course hfits).2.1 hc hfree

/-- A word of the course is complete: the next is placed, or the course ends. -/
theorem wordDone_lawful (h : Lawful s) {role : WordRole} (hfits : roleFits s role) (hrange : roleInRange s role)
    (hfree : s.engineInFlight = false) : Lawful (wordDone role s) := by
  cases role with
  | slot i j =>
    obtain ⟨hi, hj⟩ := hrange
    unfold wordDone
    dsimp only
    split
    · exact placeWord_lawful h hfits ⟨hi, by omega⟩ hfree
    split
    · next hmore => exact placeWord_lawful h hfits ⟨hmore, Nat.zero_le 2⟩ hfree
    · exact placeWord_lawful h hfits ⟨Nat.le_refl 1, by decide⟩ hfree
  | header n =>
    obtain ⟨hlow, hhigh⟩ := hrange
    unfold wordDone
    dsimp only
    split
    · exact placeWord_lawful h hfits ⟨by omega, by omega⟩ hfree
    · exact placeWord_lawful h hfits trivial hfree
  | logged =>
    obtain ⟨p, hc⟩ := (ported_iff _).mp hfits.2
    exact commitPoint_lawful h hc hfree
  | home k =>
    unfold wordDone
    dsimp only
    split
    · next hmore => exact placeWord_lawful h hfits hmore hfree
    · exact clearing_lawful h hfits hfree
  | clear =>
    match hc : s.engine.current with
    | none => exact absurd hc hfits.2
    | some (.port p) =>
      rw [wordDone_clear_of_port hc]
      exact (ended_commitDone p s).lawful h hc (by decide) hfree
    | some .recovery =>
      have hr : Recovering s := .of_lawful h (stage_of_recovery h.sound.course hfits hc)
      rw [wordDone, hc]
      exact replayDone_lawful hr hc hfree
  | restore =>
    obtain ⟨p, hc⟩ := (ported_iff _).mp hfits.2
    exact endLogging_lawful h hc hfree
  | format n =>
    obtain ⟨hlow, hhigh⟩ := hrange
    unfold wordDone
    dsimp only
    split
    · exact placeWord_lawful h hfits ⟨by omega, by omega⟩ hfree
    · exact placeWord_lawful h hfits trivial hfree
  | formatClear => exact formatDone_lawful (.of_lawful h hfits.2.2) hfits.2.1 hfree
  | damagedClear => exact damagedDone_lawful (.of_lawful h hfits.2.2) hfits.2.1 hfree

/-- A word of the course has failed: a restoring write, FAULTED, or the fault of replay. -/
theorem wordFailed_lawful (h : Lawful s) {role : WordRole} (hfits : roleFits s role) (hfree : s.engineInFlight = false)
    (x : Addr) : Lawful (wordFailed role x s) := by
  cases role with
  | slot | header | logged =>
    obtain ⟨p, hc⟩ := (ported_iff _).mp hfits.2
    exact beginRestoring_lawful h hfits.1 hc hfree
  | home k =>
    match hc : s.engine.current with
    | none => exact absurd hc hfits.2
    | some (.port p) =>
      rw [wordFailed, hc]
      exact enterFaulted_lawful h hc hfree _ _
    | some .recovery =>
      rw [wordFailed, hc]
      exact replayFault_lawful (.of_lawful h (stage_of_recovery h.sound.course hfits hc)) hfree _ _
  | clear =>
    match hc : s.engine.current with
    | none => exact absurd hc hfits.2
    | some (.port p) =>
      rw [wordFailed, hc]
      exact enterFaulted_lawful h hc hfree _ _
    | some .recovery =>
      rw [wordFailed, hc]
      exact replayFault_lawful (.of_lawful h (stage_of_recovery h.sound.course hfits hc)) hfree _ _
  | restore =>
    obtain ⟨p, hc⟩ := (ported_iff _).mp hfits.2
    rw [wordFailed, endCurrent_of_port hc]
    exact enterFaulted_lawful h hc hfree _ _
  | format | formatClear | damagedClear => exact replayFault_lawful (.of_lawful h hfits.2.2) hfree _ _

end Done

/-! ### A write or a read-back completes (06 R114, R124) -/

section Completions

variable {s : State} {w : WordInHand}

/-- In LOGGING the word in hand is one of a port's transaction. -/
theorem ported_of_logging {role : WordRole} (hfits : roleFits s role) (hstate : s.engine.state = .logging) :
    s.engine.ported := by
  cases role with
  | slot | header | logged | restore => exact hfits.2
  | home | clear | format | formatClear | damagedClear => cases hstate.symm.trans hfits.1

theorem stopped_lawful (h : Lawful s) {role : WordRole} (hfits : roleFits s role) (hstopping : s.stopping = true)
    (hfree : s.engineInFlight = false) : Lawful (settleStop s) := by
  obtain ⟨hstate, -⟩ := stopping_iff.mp hstopping
  obtain ⟨p, hc⟩ := (ported_iff _).mp (ported_of_logging hfits hstate)
  exact settleStop_lawful h hstate hc hfree

theorem afterWrite_lawful (h : Lawful s) (hword : s.engine.word = some w) (hfree : s.engineInFlight = false) :
    Lawful (afterWrite w s) := by
  obtain ⟨hfits, hrange, -⟩ := h.sound.word.fits hword
  unfold afterWrite
  split
  · next hstopping => exact stopped_lawful h hfits hstopping hfree
  split
  · obtain ⟨hstage, -, hidle, hfaulted⟩ := working_of_roleFits h.sound.course hfits
    refine ⟨h.sound.requestRead hfree (fun _ => ⟨hidle, hfaulted⟩) ?_ ?_ _,
      (requestEngineRead_handles _ s).queueLaw h.queue⟩
    · obtain hs | hs := hstage <;> rw [hs] <;> nofun
    · obtain hs | hs := hstage <;> rw [hs] <;> nofun
  · exact wordDone_lawful h hfits hrange hfree

theorem afterReadBack_lawful (h : Lawful s) (hword : s.engine.word = some w) (hfree : s.engineInFlight = false)
    (v : Word) : Lawful (afterReadBack w v s) := by
  obtain ⟨hfits, hrange, -⟩ := h.sound.word.fits hword
  unfold afterReadBack
  split
  · next hstopping => exact stopped_lawful h hfits hstopping hfree
  split
  · exact wordDone_lawful h hfits hrange hfree
  split
  · next hattempt => exact ⟨h.sound.retry hword hattempt hfree, h.queue.congr rfl rfl rfl⟩
  · exact wordFailed_lawful h hfits hfree _

theorem advanceNumber_lawful (h : Lawful s) (w : WordInHand) : Lawful (advanceNumber w s) := by
  unfold advanceNumber
  split
  · exact h.handles ⟨rfl, rfl, rfl, rfl, rfl, rfl, rfl, rfl, rfl⟩ rfl (.inl rfl) (.inl rfl)
  · exact h

theorem advanceNumber_word (v : WordInHand) : (advanceNumber v s).engine.word = s.engine.word := by
  unfold advanceNumber
  split <;> rfl

theorem advanceNumber_inFlight (v : WordInHand) : (advanceNumber v s).inFlight = s.inFlight := by
  unfold advanceNumber
  split <;> rfl

end Completions

end Sys2Proof.Machine

/-! SUPPORT. Start-up and the grants of the memory port over the laws, and so every effect: the staging laws and the
engine laws are kept together. -/

namespace Sys2Proof.Machine

/-! ### Start-up (07 R136 to R145) -/

/-- A part whose blocks are at rest, as they are until recovery. -/
structure Resting (s : State) : Prop where
  unstarted : Unstarted s
  entries : s.owned .recovery = []
  phase : s.recovery.phase = .none
  state : s.engine.state = .idle
  current : s.engine.current = none
  word : s.engine.word = none

namespace Resting

variable {s t : State}

theorem of_lawful (h : Lawful s)
    (hstage : s.stage = .stopped ∨ s.stage = .waitPwrgood ∨ s.stage = .profileRead) : Resting s := by
  have hbefore : s.stage ≠ .operating ∧ s.stage ≠ .recovery := by
    obtain hs | hs | hs := hstage <;> rw [hs] <;> exact ⟨nofun, nofun⟩
  obtain ⟨hstate, hcurrent⟩ := h.sound.course.start hstage
  refine ⟨unstarted_of_lawful h hbefore.1, ?_, ?_, hstate, hcurrent, ?_⟩
  · by_contra hne
    exact (h.sound.recovery.place hne).elim (fun hs => hbefore.2 hs.1) fun hs => hbefore.1 hs.1
  · by_contra hne
    exact hbefore.2 (h.sound.course.pass hne).1
  · obtain hs | hs | hs := hstage
    · exact (h.sound.word.start (.inl hs)).1
    · exact (h.sound.word.start (.inr hs)).1
    · exact h.sound.word.pass (.inl hs)

theorem entriesSound (h : Resting s) : EntriesSound s := by
  refine ⟨?_, ?_⟩
  · rw [h.entries]
    rfl
  · rw [h.entries]
    exact Nat.zero_le _

theorem lawful (h : Resting s) (hprofile : ProfileLaw s)
    (hstage : s.stage = .stopped ∨ s.stage = .waitPwrgood ∨ s.stage = .profileRead)
    (hrequest : s.waiting.engine = none) (hfree : s.engineInFlight = false) : Lawful s := by
  have hbefore : s.stage ≠ .operating ∧ s.stage ≠ .recovery := by
    obtain hs | hs | hs := hstage <;> rw [hs] <;> exact ⟨nofun, nofun⟩
  have hroom : s.sb.length ≤ Config.stageCapacity := by
    rw [h.unstarted.length, h.entries]
    exact Nat.zero_le _
  refine ⟨⟨⟨hprofile, fun p => h.unstarted.txnSound (by rw [h.current]; nofun),
    ⟨h.entriesSound.positions, h.entriesSound.fits, fun hne => absurd h.entries hne⟩, hroom, ?_, ?_, ?_⟩,
    .of_rest h.word hrequest hfree⟩, .of_nil h.unstarted.queue⟩
  · rw [h.unstarted.queue]
    exact List.nodup_nil
  · rw [CourseLaw, h.phase]
    refine ⟨fun _ => ⟨h.state, h.current⟩, fun hne => absurd rfl hne, nofun, nofun, fun hs => absurd hs hbefore.1,
      fun hported => ?_⟩
    obtain ⟨p, hp⟩ := (ported_iff _).mp hported
    cases h.current.symm.trans hp
  · rw [SlotLaw, h.phase]
    exact ⟨nofun, nofun, nofun, nofun, nofun, fun hs => absurd hs hbefore.2⟩

theorem ripe (h : Resting s) {f : Profile} (hf : s.profile = some f) (hlegal : Legal f)
    (hrequest : s.waiting.engine = none) (hfree : s.engineInFlight = false) : Ripe s :=
  ⟨⟨f, hf, hlegal⟩, h.unstarted, h.phase, h.current, h.word, hrequest, hfree, .inl ⟨h.state, h.entries⟩,
    h.entriesSound⟩

/-- Neither the stage nor the profile matters. -/
theorem congr (h : Resting s) (hsb : t.sb = s.sb) (hclaims : t.claims = s.claims) (htxns : t.txns = s.txns)
    (hqueue : t.commitQueue = s.commitQueue) (hrecovery : t.recovery = s.recovery) (hengine : t.engine = s.engine) :
    Resting t := by
  have howned (o : Owner) : t.owned o = s.owned o := by rw [State.owned, State.owned, hsb]
  exact ⟨h.unstarted.congr (fun p => howned _) hclaims (fun p => by rw [htxns]) hqueue, (howned _).trans h.entries,
    by rw [hrecovery, h.phase], by rw [hengine, h.state], by rw [hengine, h.current], by rw [hengine, h.word]⟩

theorem initial (hsb : s.sb = []) (hclaims : s.claims = Vector.replicate 16 none)
    (htxns : s.txns = { a := Txn.empty, b := Txn.empty }) (hqueue : s.commitQueue = [])
    (hrecovery : s.recovery = Recovery.fresh) (hengine : s.engine = Engine.fresh) : Resting s := by
  have howned (o : Owner) : s.owned o = [] := by rw [State.owned, hsb]; rfl
  refine ⟨⟨fun p => howned _, fun w p => ?_, fun p => ?_, hqueue⟩, howned _, by rw [hrecovery]; rfl,
    by rw [hengine]; rfl, by rw [hengine]; rfl, by rw [hengine]; rfl⟩
  · rw [State.claim, hclaims, Fin.getElem_fin, Vector.getElem_replicate]
    nofun
  · rw [htxns]
    cases p <;> rfl

end Resting

section StartUp

variable {s : State}

theorem initialise_resting (s : State) : Resting (initialise s) := .initial rfl rfl rfl rfl rfl rfl

theorem beginProfileRead_lawful (h : Resting s) (hprofile : ProfileLaw s) (hrequest : s.waiting.engine = none)
    (hfree : s.engineInFlight = false) : Lawful (beginProfileRead s) := by
  have hbegun : Resting { s with stage := .profileRead, candidate := [] } := h.congr rfl rfl rfl rfl rfl rfl
  have hlawful := hbegun.lawful (hprofile.forward rfl nofun) (.inr (.inr rfl)) hrequest hfree
  exact ⟨hlawful.sound.requestRead hfree nofun nofun nofun _, (requestEngineRead_handles _ _).queueLaw hlawful.queue⟩

theorem startUp_lawful (s : State) : Lawful (startUp s) := by
  have hresting := initialise_resting s
  unfold startUp
  dsimp only
  split
  · have hinstalled : Resting (installProfile bypassProfile .bypass (initialise s)) :=
      hresting.congr rfl rfl rfl rfl rfl rfl
    exact ((hinstalled.ripe rfl legal_bypassProfile rfl rfl).raise .bypass .part none _ _).rise
  split
  · exact beginProfileRead_lawful hresting (.of_none rfl nofun) rfl rfl
  · have hwaiting : Resting { initialise s with stage := .waitPwrgood } := hresting.congr rfl rfl rfl rfl rfl rfl
    exact hwaiting.lawful (.of_none rfl nofun) (.inr (.inl rfl)) rfl rfl

theorem concludeProfile_lawful (h : Resting s) (hrequest : s.waiting.engine = none) (hflight : s.inFlight = none) :
    Lawful (concludeProfile s) := by
  have hfree := engineInFlight_of_none hflight
  unfold concludeProfile
  split
  · next hvalid =>
    have hlegal := legal_of_validated hvalid
    have hinstalled : Resting (installProfile (parseProfile s.candidate) .valid s) := h.congr rfl rfl rfl rfl rfl rfl
    dsimp only
    split
    · exact (hinstalled.ripe rfl hlegal hrequest hfree).rise
    · next harea =>
      let t := setEngineState .replayLoad { installProfile (parseProfile s.candidate) .valid s with
        stage := .recovery, recovery := { Recovery.fresh with phase := .header } }
      have hrecovering : Recovering t :=
        ⟨.of_legal hlegal rfl, rfl, hinstalled.unstarted.congr (fun _ => rfl) rfl (fun _ => rfl) rfl,
          hinstalled.entriesSound.congr rfl rfl, harea, .inl ⟨h.current, h.entries⟩⟩
      exact hrecovering.request rfl (fun _ => h.current) nofun (slotLaw_header rfl rfl rfl harea) h.word hfree _
  · next reason item _ =>
    have hinstalled : Resting (installProfile fallbackProfile (.rejected reason) { s with candidate := [] }) :=
      h.congr rfl rfl rfl rfl rfl rfl
    exact ((hinstalled.ripe rfl legal_fallbackProfile hrequest hfree).raise .profileRejected .part none _ _).rise

theorem takeProfileWord_lawful (h : Lawful s) (hstage : s.stage = .profileRead) {x : Addr}
    (hreads : s.inFlight = some { holder := .engine, kind := .read, addr := x }) (w : Word) :
    Lawful (takeProfileWord w s) := by
  have hrequest := no_request_of_inFlight h.sound.word (engineInFlight_of_access hreads)
  have hread : Resting { s with candidate := s.candidate ++ [w], inFlight := none } :=
    (Resting.of_lawful h (.inr (.inr hstage))).congr rfl rfl rfl rfl rfl rfl
  have hlawful := hread.lawful (h.sound.profile.congr rfl rfl) (.inr (.inr hstage)) hrequest rfl
  unfold takeProfileWord
  dsimp only
  split
  · refine ⟨hlawful.sound.requestRead rfl ?_ ?_ ?_ _, (requestEngineRead_handles _ _).queueLaw hlawful.queue⟩
    · exact fun hs => Stage.noConfusion (hstage.symm.trans hs)
    · exact fun hs => Stage.noConfusion (hstage.symm.trans hs)
    · exact fun hs => Stage.noConfusion (hstage.symm.trans hs)
  · exact concludeProfile_lawful hread hrequest rfl

end StartUp

/-! ### The memory port (10 R187, R188) -/

section Grants

variable {s : State}

theorem useClientGrant_lawful {p : Port} (h : Lawful s)
    (hready : stages (s.txns.get p).state = true → s.stage = .operating) (q : Request) :
    Lawful (useClientGrant p q s) := by
  have hbegun : Lawful (beginAccess (.client p) q s) :=
    h.handles ⟨rfl, rfl, rfl, rfl, rfl, rfl, rfl, rfl, rfl⟩ rfl (.inl rfl) (.inr rfl)
  unfold useClientGrant
  split
  · split
    · exact h.aside (completeCycle_aside ..)
    · exact hbegun
  · split
    · exact hbegun
    · exact applyWrite_lawful h hready writeStep6_fits

theorem useGrant_lawful (h : Lawful s) (hguard : GuardLaw s) {r : Requester} {q : Request}
    (hnext : s.nextGrant = some (r, q)) : Lawful (useGrant r q (grantTo r s)) := by
  cases r with
  | engine =>
    have k := useGrant_engine_handles q s
    exact ⟨⟨k.grounded h.sound.toGrounded, h.sound.word.granted (nextGrant_mem hnext)⟩, k.queueLaw h.queue⟩
  | client p =>
    have hgranted : Lawful (grantTo (.client p) s) :=
      h.handles ⟨rfl, rfl, rfl, rfl, rfl, rfl, rfl, rfl, rfl⟩ rfl (.inl rfl) (.inl rfl)
    exact useClientGrant_lawful hgranted (ready_of_stages ((grantTo_calm _ s).seated.kept.guard hguard)) q

end Grants

/-! ### Every effect -/

section EveryEffect

variable {s t : State}

theorem landed_lawful (h : Lawful s) : Lawful (s.setInFlight none) :=
  h.handles ⟨rfl, rfl, rfl, rfl, rfl, rfl, rfl, rfl, rfl⟩ rfl (.inl rfl) (.inr rfl)

theorem written_lawful (h : Lawful s) (x : Addr) (v : Word) : Lawful ((s.writeWord x v).setInFlight none) :=
  h.handles ⟨rfl, rfl, rfl, rfl, rfl, rfl, rfl, rfl, rfl⟩ rfl (.inl rfl) (.inr rfl)

/-- Every effect keeps the laws of the transactions, the engine, recovery and the queue. -/
theorem Effect.lawful (heffect : Effect s t) (h : Lawful s) (hguard : GuardLaw s) : Lawful t := by
  have aside (hframe : t = { s with
      ports := t.ports, sqr := t.sqr, sessions := t.sessions, leases := t.leases, raised := t.raised }) : Lawful t :=
    h.aside (.of_frame hframe)
  have stopped {u : State} (hu : Resting u) (hprofile : u.profile = none) (hstage : u.stage = .stopped)
      (hrequest : u.waiting.engine = none) (hflight : u.inFlight = none) : Lawful u :=
    hu.lawful (.of_none hprofile (by rw [hstage]; nofun)) (.inl hstage) hrequest (engineInFlight_of_none hflight)
  cases heffect with
  | same => exact h
  | startsUp => exact startUp_lawful _
  | heldInReset => exact stopped (initialise_resting _) rfl rfl rfl rfl
  | resetnFalls | supplyLost => exact stopped (.initial rfl rfl rfl rfl rfl rfl) rfl rfl rfl rfl
  | resetnMoves | pwrgoodMoves =>
    exact h.aside ⟨rfl, rfl, rfl, rfl, rfl, rfl, rfl, fun _ => rfl, fun _ => rfl, rfl, rfl⟩
  | fenceEntered ready => exact enterFence_lawful h ready
  | fenceLeft =>
    have hrisen : Aside s { s with pwrgood := true } :=
      ⟨rfl, rfl, rfl, rfl, rfl, rfl, rfl, fun _ => rfl, fun _ => rfl, rfl, rfl⟩
    have hleft (u : State) : Aside u { u with fence := .opened, absorbed := 0#16 } :=
      ⟨rfl, rfl, rfl, rfl, rfl, rfl, rfl, fun _ => rfl, fun _ => rfl, rfl, rfl⟩
    exact h.aside ((hrisen.trans (raise_aside ..)).trans (hleft _))
  | waitEnds waits =>
    obtain ⟨-, hrequest, hfree⟩ := h.sound.word.start (.inr waits)
    have hresting : Resting { s with pwrgood := true } :=
      (Resting.of_lawful h (.inr (.inl waits))).congr rfl rfl rfl rfl rfl rfl
    exact beginProfileRead_lawful hresting (h.sound.profile.congr rfl rfl) hrequest hfree
  | profileWord w x stage reads => exact takeProfileWord_lawful h stage reads w
  | headerWord w x phase => exact takeHeaderWord_lawful h phase w
  | checkWord w x phase => exact takeCheckWord_lawful h phase w
  | loadWord w x phase => exact takeLoadWord_lawful h phase w
  | granted r q free next => exact useGrant_lawful h hguard next
  | readAnswered p x w => exact (landed_lawful h).aside (completeCycle_aside ..)
  | writeDone p x d w => exact (written_lawful h x w).aside ((spendAt_aside ..).trans (settleWrite_aside ..))
  | engineWrote w x d v writes word =>
    refine afterWrite_lawful (advanceNumber_lawful (written_lawful h x v) w) ?_ (engineInFlight_of_none ?_)
    · rw [advanceNumber_word]
      exact word
    · rw [advanceNumber_inFlight]
      rfl
  | engineVerified w x v reads word => exact afterReadBack_lawful (landed_lawful h) word rfl v
  | engineTakes ready => exact takes_lawful h ready
  | cycleTaken p kind x gone => exact settleCycle_lawful (h.aside (setPort_aside ..)) kind x
  | stepTimerEnds p =>
    split
    · exact h.aside (.of_frame (by rw [countBreak_frame]))
    · exact h.aside (setSqr_aside ..)
  | lockoutEnds p => exact h.aside ((setSqr_aside ..).trans (raise_aside ..))
  | idleTimerEnds p => exact endSession_lawful h _
  | lifetimeEnds w => exact h.aside (endLease_aside ..)
  | holdoffEnds w => exact h.aside (setLease_aside ..)
  | cycleAbandoned p | endingExit p => exact h.aside (setPort_aside ..)
  | arrives n rest =>
    rw [takeNotice_frame]
    exact h.aside ⟨rfl, rfl, rfl, rfl, rfl, rfl, rfl, fun _ => rfl, fun _ => rfl, rfl, rfl⟩

end EveryEffect

/-- What both families of laws come to, for the part as a whole. -/
theorem laws_of_effect {s t : State} (hstaging : StagingLaws s) (hengine : EngineLaws s) (heffect : Effect s t) :
    StagingLaws t ∧ EngineLaws t := by
  obtain ⟨-, hfence, hsession, -⟩ := id hstaging
  obtain ⟨hsound, hqueue⟩ :=
    heffect.lawful ⟨sound_of_laws hstaging hengine, queueLaw_of_laws hengine⟩ ⟨hfence, hsession⟩
  exact ⟨stagingLaws_of_sound hsound (heffect.seatKept.guard ⟨hfence, hsession⟩), engineLaws_of_sound hsound hqueue⟩

/-- Settles O11: every effect keeps the staging laws, resting on the engine laws. -/
theorem stagingLawsAreKept : Obligations.StagingLawsAreKept := by
  intro s t
  exact law_of_step (Law := fun s => StagingLaws s ∧ EngineLaws s) (fun _ _ h => h) (fun _ _ ⟨h, _⟩ _ => h)
    fun s t ⟨hstaging, hengine⟩ heffect => (laws_of_effect hstaging hengine heffect).1

/-- Settles O12: every effect keeps the engine laws, resting on the staging laws. -/
theorem engineLawsAreKept : Obligations.EngineLawsAreKept := by
  intro s t
  exact law_of_step (Law := fun s => StagingLaws s ∧ EngineLaws s) (fun _ _ h => h) (fun _ _ ⟨_, h⟩ _ => h)
    fun s t ⟨hstaging, hengine⟩ heffect => (laws_of_effect hstaging hengine heffect).2

end Sys2Proof.Machine
